-- ==== Sys2Proof/Word.lean ====
section
/-! DEFINITION. The machine's word, halfword and byte, and the numbers of its registers
(`00_scope.md` R7, R9, R10). -/

namespace Sys2Proof

/-- A 32-bit word: the width of an instruction, of a register and of an address (R7, R30). -/
abbrev Word := BitVec 32

/-- A byte, the smallest unit an address names (R60). -/
abbrev Byte := BitVec 8

/-- The number in a register field of an instruction, 0 to 15 (R90). -/
abbrev RegNum := BitVec 4

/-- R13, the stack pointer by convention (R21). -/
abbrev RegNum.sp : RegNum := 13

/-- R14, the link register (R21). -/
abbrev RegNum.lr : RegNum := 14

/-- R15, the program counter (R21). -/
abbrev RegNum.pc : RegNum := 15

end Sys2Proof
end

