-- ==== Sys2Proof/Config.lean ====
section
/-! DEFINITION. What the spec leaves to an implementation or to the platform: the parameters of `00_scope.md` R8
as plain data, and the free values, which have no body. -/

namespace Sys2Proof

/-- What an access is for, as the abort oracle is asked (`20_memory.md` R73). -/
inductive AccessKind where
  | fetch | read | write
  deriving DecidableEq, Repr

/-- One line of the oracle ABORT (R73, D12): accesses of this kind, size in bytes and privilege, at an address
from `first` to `last`, abort. Every oracle over the finitely many accesses is a finite list of such lines. -/
structure AbortEntry where
  kind : AccessKind
  size : Nat
  privileged : Bool
  first : Nat
  last : Nat
  deriving DecidableEq, Repr

/-- The parameters that the platform fixes and no instruction changes (`00_scope.md` R8). -/
structure Platform where
  /-- BIGEND (R62, D2): the most significant byte stands at the lowest address. -/
  bigEnd : Bool
  /-- ABORT (R73, D12): the accesses that abort. -/
  aborts : List AbortEntry
  /-- ABORT_BASE_MODEL (R74, D12): `false` is `restored`, `true` is `updated`. -/
  baseUpdated : Bool
  /-- COPROC_PRESENT (R8, D10): the coprocessor numbers that are present. -/
  coprocessors : List (BitVec 4)
  deriving DecidableEq, Repr

/-- The defaults the spec gives the parameters (D2, D10, D12). -/
def Platform.default : Platform := { bigEnd := false, aborts := [], baseUpdated := false, coprocessors := [] }

/-- A free bit: an UNSPECIFIED one-bit value (R16). The state's counter `draws` picks which one. -/
opaque Config.freeBit : Nat → Bool

/-- A free word: an UNSPECIFIED 32-bit value (R16). -/
opaque Config.freeWord : Nat → Word

end Sys2Proof
end

