-- ==== Sys2Proof/Machine/State.lean ====
section
/-! DEFINITION. The state of the machine as plain data (`10_state.md`), the reasons a step can stop, and the state
after reset. -/

namespace Sys2Proof.Machine

/-- The seven processor modes (`10_state.md` R44, `60_exceptions.md` R330). -/
inductive Mode where
  | usr | fiq | irq | svc | abt | und | sys
  deriving DecidableEq, Repr

/-- A program status register: the record of R41 and R45. Bits [27:8] hold no field (R45). -/
structure Psr where
  /-- Bit 31: negative. -/
  n : Bool
  /-- Bit 30: zero. -/
  z : Bool
  /-- Bit 29: carry. -/
  c : Bool
  /-- Bit 28: overflow. -/
  v : Bool
  /-- Bit 7: 1 disables IRQ. -/
  i : Bool
  /-- Bit 6: 1 disables FIQ. -/
  f : Bool
  /-- Bit 5: 1 means Thumb instructions. -/
  t : Bool
  /-- Bits [4:0]: the processor mode (R44). -/
  m : BitVec 5
  deriving DecidableEq, Repr

/-- The physical general registers other than R15 (R22, R23): 15 of the usr and sys bank, seven of the fiq bank, and two
of each of the other four exception banks. -/
inductive PhysReg where
  | r0 | r1 | r2 | r3 | r4 | r5 | r6 | r7 | r8 | r9 | r10 | r11 | r12 | r13 | r14
  | r8Fiq | r9Fiq | r10Fiq | r11Fiq | r12Fiq | r13Fiq | r14Fiq
  | r13Svc | r14Svc | r13Abt | r14Abt | r13Und | r14Und | r13Irq | r14Irq
  deriving DecidableEq, Repr

/-- The cells of the physical general registers other than R15 (R20, R22, R23). -/
structure Regs where
  r0 : Word
  r1 : Word
  r2 : Word
  r3 : Word
  r4 : Word
  r5 : Word
  r6 : Word
  r7 : Word
  r8 : Word
  r9 : Word
  r10 : Word
  r11 : Word
  r12 : Word
  r13 : Word
  r14 : Word
  r8Fiq : Word
  r9Fiq : Word
  r10Fiq : Word
  r11Fiq : Word
  r12Fiq : Word
  r13Fiq : Word
  r14Fiq : Word
  r13Svc : Word
  r14Svc : Word
  r13Abt : Word
  r14Abt : Word
  r13Und : Word
  r14Und : Word
  r13Irq : Word
  r14Irq : Word
  deriving DecidableEq, Repr

/-- Memory as the bytes that hold a value, by rising address (`20_memory.md` R60). An address that is not listed has no
value (D26, D27). -/
abbrev Memory := List Host.Cell

/-- One sample of the three environment inputs at an instruction boundary (`10_state.md` R52, `60_exceptions.md` R305). -/
structure Lines where
  reset : Bool
  fiq : Bool
  irq : Bool
  deriving DecidableEq, Repr

/-- No line asserted: the default of the three inputs (D13). -/
def Lines.idle : Lines := { reset := false, fiq := false, irq := false }

/-- A word that may have been fetched before a store changed it (`20_memory.md` R79): its address and what stood there
(`none` where a byte had no value). -/
structure Stale where
  addr : Word
  old : Option Word
  deriving DecidableEq, Repr

/-- Why the machine stops with a fault. Every one is a case the spec calls UNPREDICTABLE, or a read of memory that
nothing has written, and for which it asks the model to fault (`00_scope.md` R16, `93_implementation_defined.md`
section 2 and V2). All are SAFE: the hardware goes on in some unstated way where the model stops. -/
inductive Fault where
  /-- U1. Raised by the fetch of a word whose condition field is 1111 (R117, R133). Safe. -/
  | condition15 (w : Word)
  /-- U2. Raised at the fetch of a word that matches no row of the opcode table and whose condition holds (R121). Safe. -/
  | unallocated (w : Word)
  /-- U3. Raised by an instruction at 0xFFFFFFFC that does not assign the PC (R34). Safe. -/
  | pcWrap
  /-- U4. Raised by a word access at an address that is no multiple of 4, or a halfword access at an odd address (R65).
  Safe. -/
  | misaligned (a : Word)
  /-- V2. Raised by a read or a fetch at this address of a byte that nothing has written (R72, D26, D27). Safe. -/
  | unwritten (a : Word)
  /-- U5. Raised by a data-processing instruction of the register-shift form with R15 as an operand (R147). Safe. -/
  | registerShiftR15
  /-- U6, U16. Raised in a mode without an SPSR by MRS or MSR of the SPSR (R46), and by an exception return (R149, R238).
  Safe. -/
  | noSpsr
  /-- U7. Raised by MUL and MLA with Rd = Rm or with R15 (R193). Safe. -/
  | mulOperands
  /-- U8. Raised by the long multiplies with RdHi, RdLo, Rm not all different or with R15 (R199). Safe. -/
  | mulLongOperands
  /-- U9. Raised by the register restrictions of R205 on single transfers. Safe. -/
  | transferOperands
  /-- U10. Raised by R15 as Rd of a single transfer other than LDR (R206, R214, R217). Safe. -/
  | transferR15
  /-- U11. Raised by a halfword or signed transfer with P = 0 and W = 1 (R217). Safe. -/
  | halfPostWriteBack
  /-- U12. Raised by the register restrictions of R236 and R237 on LDM and STM. Safe. -/
  | blockOperands
  /-- U13. Raised by LDM and STM with `^`: in usr mode, or the user-bank form with write-back (R238, R239). Safe. -/
  | userBankForm
  /-- U13. Raised by an instruction that follows a user-bank LDM or STM and names a banked register (R365). Safe. -/
  | bankedAfterUserBank
  /-- U14. Raised by SWP and SWPB with R15, or with Rn = Rd or Rn = Rm (R253). Safe. -/
  | swapOperands
  /-- U15. Raised by BX with Rm = R15, or to an address with bit 0 clear and bit 1 set (R264). Safe. -/
  | branchExchange
  /-- U16. Raised by MRS with Rd = R15 and MSR with Rm = R15 (R271, R272). Safe. -/
  | statusR15
  /-- U17. Raised by an MSR that would change CPSR.T (R273). Safe. -/
  | msrThumb
  /-- U17. Raised by writing into a status register, by MSR or by an exception return, a mode field that is none of the
  seven (R44, R273, R320). Safe. -/
  | invalidMode
  deriving DecidableEq, Repr

/-- Why the model declines to go on: the part of the hardware the step would need is outside the spec. -/
inductive Refusal where
  /-- Raised by an arm of `exec` whose instruction has no meaning yet; no arm does. Safe. -/
  | notModelled (mnemonic : String)
  /-- F1. Raised by BX to an address with bit 0 set, by an exception return to an SPSR with T = 1, and by a step with T = 1:
  Thumb state is outside the spec (R43, R264, R320, D11). Safe. -/
  | thumbState
  /-- F2. Raised by a coprocessor instruction whose coprocessor the platform declares present: the spec gives no
  coprocessor (R284, D10). Never raised with the default platform. Safe. -/
  | coprocessorUnspecified (number : BitVec 4)
  deriving DecidableEq, Repr

/-- The whole state of the machine (`10_state.md`). -/
structure State where
  /-- The general registers R0 to R14 of every bank (R20 to R23). -/
  regs : Regs
  /-- R15: the address of the instruction being executed (R30, R31). -/
  pc : Word
  /-- The current program status register (R41). -/
  cpsr : Psr
  /-- The five saved program status registers (R46). -/
  spsrSvc : Psr
  spsrAbt : Psr
  spsrUnd : Psr
  spsrIrq : Psr
  spsrFiq : Psr
  /-- The memory (R51, R60). -/
  mem : Memory
  /-- The environment inputs, one sample for each instruction boundary to come; past the end, none is asserted
  (R52, R305, D13). -/
  lines : List Lines
  /-- The platform's parameters, which no step changes (`00_scope.md` R8). -/
  platform : Platform
  /-- The prefetched words that a store may have missed (R53, R79). -/
  stale : List Stale
  /-- The last instruction was a user-bank LDM or STM (R365). -/
  afterUserBank : Bool
  /-- The model's own: how many free values have been drawn (R16). -/
  draws : Nat
  deriving DecidableEq, Repr

/-- What a step answers. -/
abbrev Out := Host.Outcome State Fault Refusal

/-- The value the model names for the status registers that the spec leaves unspecified at reset (R49; log entry 2). -/
def Psr.zero : Psr :=
  { n := false, z := false, c := false, v := false, i := false, f := false, t := false, m := 0 }

/-- The value the model names for the registers that the spec leaves unspecified at reset (R27, R54; log entry 1). -/
def Regs.zero : Regs :=
  { r0 := 0, r1 := 0, r2 := 0, r3 := 0, r4 := 0, r5 := 0, r6 := 0, r7 := 0, r8 := 0, r9 := 0, r10 := 0, r11 := 0,
    r12 := 0, r13 := 0, r14 := 0, r8Fiq := 0, r9Fiq := 0, r10Fiq := 0, r11Fiq := 0, r12Fiq := 0, r13Fiq := 0,
    r14Fiq := 0, r13Svc := 0, r14Svc := 0, r13Abt := 0, r14Abt := 0, r13Und := 0, r14Und := 0, r13Irq := 0,
    r14Irq := 0 }

/-- The machine right after reset (R54, R351): svc mode, IRQ and FIQ disabled, ARM state, PC = 0; memory with nothing
listed; every register the spec leaves unspecified at the value its log entry names. -/
def State.reset : State :=
  { regs := Regs.zero
    pc := 0
    cpsr := { n := false, z := false, c := false, v := false, i := true, f := true, t := false, m := 0b10011 }
    spsrSvc := Psr.zero
    spsrAbt := Psr.zero
    spsrUnd := Psr.zero
    spsrIrq := Psr.zero
    spsrFiq := Psr.zero
    mem := []
    lines := []
    platform := Platform.default
    stale := []
    afterUserBank := false
    draws := 0 }

end Sys2Proof.Machine
end

