-- ==== Sys2Proof/Machine/Flags.lean ====
section
/-! DEFINITION. The arithmetic of the ALU and every flag computation (`41_data_processing.md` R148 to R152,
`42_multiply.md` R194). -/

namespace Sys2Proof.Machine

/-- The second operand after the barrel shifter: its value and the shifter's carry-out (R141). -/
structure Operand where
  value : Word
  carry : Bool
  deriving DecidableEq, Repr

/-- A result with the new C and V that go with it (R148). -/
structure Alu where
  result : Word
  carry : Bool
  overflow : Bool
  deriving DecidableEq, Repr

/-- `AddWithCarry(a, b, cin)`: the exact unsigned and signed sums, and the result narrowed to 32 bits (R150). -/
def addWithCarry (a b : Word) (cin : Bool) : Alu :=
  let usum : Nat := a.toNat + b.toNat + cin.toNat
  let ssum : Int := a.toInt + b.toInt + (cin.toNat : Int)
  let result : Word := BitVec.ofNat 32 usum
  { result := result, carry := decide (2 ^ 32 ≤ usum), overflow := decide (ssum ≠ result.toInt) }

/-- A logical result: C is the shifter's carry, V is kept (R152). -/
def logical (r : Word) (o : Operand) (p : Psr) : Alu := { result := r, carry := o.carry, overflow := p.v }

/-- R160. -/
def aluAdd (a : Word) (o : Operand) (_ : Psr) : Alu := addWithCarry a o.value false

/-- R161: the C that is added is the flag before the instruction. -/
def aluAdc (a : Word) (o : Operand) (p : Psr) : Alu := addWithCarry a o.value p.c

/-- R162. -/
def aluSub (a : Word) (o : Operand) (_ : Psr) : Alu := addWithCarry a (~~~o.value) true

/-- R163. -/
def aluSbc (a : Word) (o : Operand) (p : Psr) : Alu := addWithCarry a (~~~o.value) p.c

/-- R164. -/
def aluRsb (a : Word) (o : Operand) (_ : Psr) : Alu := addWithCarry o.value (~~~a) true

/-- R165. -/
def aluRsc (a : Word) (o : Operand) (p : Psr) : Alu := addWithCarry o.value (~~~a) p.c

/-- R170; TST computes the same (R168). -/
def aluAnd (a : Word) (o : Operand) (p : Psr) : Alu := logical (a &&& o.value) o p

/-- R171; TEQ computes the same (R169). -/
def aluEor (a : Word) (o : Operand) (p : Psr) : Alu := logical (a ^^^ o.value) o p

/-- R172. -/
def aluOrr (a : Word) (o : Operand) (p : Psr) : Alu := logical (a ||| o.value) o p

/-- R173: the carry is the shifter's, before the operand is complemented. -/
def aluBic (a : Word) (o : Operand) (p : Psr) : Alu := logical (a &&& ~~~o.value) o p

/-- R174. -/
def aluMov (o : Operand) (p : Psr) : Alu := logical o.value o p

/-- R175. -/
def aluMvn (o : Operand) (p : Psr) : Alu := logical (~~~o.value) o p

/-- The status register with N, Z, C, V from a result (R148). -/
def Psr.withAlu (p : Psr) (r : Alu) : Psr :=
  { p with n := r.result.msb, z := decide (r.result = 0), c := r.carry, v := r.overflow }

/-- The flags of MULS and MLAS: N and Z from the result, C a free value, V kept (R194). -/
def Psr.withMul (p : Psr) (result : Word) (freeC : Bool) : Psr :=
  { p with n := result.msb, z := decide (result = 0), c := freeC }

/-- The flags of the long multiplies with S: N is bit 63, Z is that all 64 bits are zero, C and V are free values
(R194). -/
def Psr.withMulLong (p : Psr) (result : BitVec 64) (freeC freeV : Bool) : Psr :=
  { p with n := result.msb, z := decide (result = 0), c := freeC, v := freeV }

end Sys2Proof.Machine
end

