-- ==== Sys2Proof/Syntax.lean ====
section
/-! DEFINITION. The instruction set as syntax: one constructor for every row of `spec/opcode_table.json`
(109 rows; `30_encoding.md` R91 to R109). A constructor's arguments are the row's fields under the row's names.
A field the table calls "ignored" (R106, R120) is kept as `sbz`: no meaning reads it, and it is there so that
a word and its instruction determine each other. -/

namespace Sys2Proof

/-- The fifteen conditions of the `cond` field (`40_conditional_execution.md` R130). The sixteenth value, 1111,
is no condition (R133): the decoder refuses it by name. -/
inductive Cond where
  | eq | ne | cs | cc | mi | pl | vs | vc | hi | ls | ge | lt | gt | le | al
  deriving DecidableEq, Repr

/-- The four shifts of the two-bit `shift` field (R108). RRX is ROR by an immediate amount of 0. -/
inductive ShiftKind where
  | lsl | lsr | asr | ror
  deriving DecidableEq, Repr

/-- One instruction. Suffixes: `Imm` immediate operand or offset, `Shi` register shifted by an immediate,
`Shr` register shifted by a register, `Reg` register offset, `Pre` and `Post` the address modes of
`43_load_store.md` R202 (`Pre` carries W, the `!` of auto-indexing). -/
inductive Instr where
  -- AND (R91, R106; R170)
  | andImm (cond : Cond) (s : Bool) (rn rd : RegNum) (rotate : BitVec 4) (imm8 : BitVec 8)
  | andShi (cond : Cond) (s : Bool) (rn rd : RegNum) (amount : BitVec 5) (shift : ShiftKind) (rm : RegNum)
  | andShr (cond : Cond) (s : Bool) (rn rd : RegNum) (rs : RegNum) (shift : ShiftKind) (rm : RegNum)
  -- EOR (R91, R106; R171)
  | eorImm (cond : Cond) (s : Bool) (rn rd : RegNum) (rotate : BitVec 4) (imm8 : BitVec 8)
  | eorShi (cond : Cond) (s : Bool) (rn rd : RegNum) (amount : BitVec 5) (shift : ShiftKind) (rm : RegNum)
  | eorShr (cond : Cond) (s : Bool) (rn rd : RegNum) (rs : RegNum) (shift : ShiftKind) (rm : RegNum)
  -- SUB (R91, R106; R162)
  | subImm (cond : Cond) (s : Bool) (rn rd : RegNum) (rotate : BitVec 4) (imm8 : BitVec 8)
  | subShi (cond : Cond) (s : Bool) (rn rd : RegNum) (amount : BitVec 5) (shift : ShiftKind) (rm : RegNum)
  | subShr (cond : Cond) (s : Bool) (rn rd : RegNum) (rs : RegNum) (shift : ShiftKind) (rm : RegNum)
  -- RSB (R91, R106; R164)
  | rsbImm (cond : Cond) (s : Bool) (rn rd : RegNum) (rotate : BitVec 4) (imm8 : BitVec 8)
  | rsbShi (cond : Cond) (s : Bool) (rn rd : RegNum) (amount : BitVec 5) (shift : ShiftKind) (rm : RegNum)
  | rsbShr (cond : Cond) (s : Bool) (rn rd : RegNum) (rs : RegNum) (shift : ShiftKind) (rm : RegNum)
  -- ADD (R91, R106; R160)
  | addImm (cond : Cond) (s : Bool) (rn rd : RegNum) (rotate : BitVec 4) (imm8 : BitVec 8)
  | addShi (cond : Cond) (s : Bool) (rn rd : RegNum) (amount : BitVec 5) (shift : ShiftKind) (rm : RegNum)
  | addShr (cond : Cond) (s : Bool) (rn rd : RegNum) (rs : RegNum) (shift : ShiftKind) (rm : RegNum)
  -- ADC (R91, R106; R161)
  | adcImm (cond : Cond) (s : Bool) (rn rd : RegNum) (rotate : BitVec 4) (imm8 : BitVec 8)
  | adcShi (cond : Cond) (s : Bool) (rn rd : RegNum) (amount : BitVec 5) (shift : ShiftKind) (rm : RegNum)
  | adcShr (cond : Cond) (s : Bool) (rn rd : RegNum) (rs : RegNum) (shift : ShiftKind) (rm : RegNum)
  -- SBC (R91, R106; R163)
  | sbcImm (cond : Cond) (s : Bool) (rn rd : RegNum) (rotate : BitVec 4) (imm8 : BitVec 8)
  | sbcShi (cond : Cond) (s : Bool) (rn rd : RegNum) (amount : BitVec 5) (shift : ShiftKind) (rm : RegNum)
  | sbcShr (cond : Cond) (s : Bool) (rn rd : RegNum) (rs : RegNum) (shift : ShiftKind) (rm : RegNum)
  -- RSC (R91, R106; R165)
  | rscImm (cond : Cond) (s : Bool) (rn rd : RegNum) (rotate : BitVec 4) (imm8 : BitVec 8)
  | rscShi (cond : Cond) (s : Bool) (rn rd : RegNum) (amount : BitVec 5) (shift : ShiftKind) (rm : RegNum)
  | rscShr (cond : Cond) (s : Bool) (rn rd : RegNum) (rs : RegNum) (shift : ShiftKind) (rm : RegNum)
  -- TST (R91, R106; R168)
  | tstImm (cond : Cond) (rn sbz : RegNum) (rotate : BitVec 4) (imm8 : BitVec 8)
  | tstShi (cond : Cond) (rn sbz : RegNum) (amount : BitVec 5) (shift : ShiftKind) (rm : RegNum)
  | tstShr (cond : Cond) (rn sbz : RegNum) (rs : RegNum) (shift : ShiftKind) (rm : RegNum)
  -- TEQ (R91, R106; R169)
  | teqImm (cond : Cond) (rn sbz : RegNum) (rotate : BitVec 4) (imm8 : BitVec 8)
  | teqShi (cond : Cond) (rn sbz : RegNum) (amount : BitVec 5) (shift : ShiftKind) (rm : RegNum)
  | teqShr (cond : Cond) (rn sbz : RegNum) (rs : RegNum) (shift : ShiftKind) (rm : RegNum)
  -- CMP (R91, R106; R166)
  | cmpImm (cond : Cond) (rn sbz : RegNum) (rotate : BitVec 4) (imm8 : BitVec 8)
  | cmpShi (cond : Cond) (rn sbz : RegNum) (amount : BitVec 5) (shift : ShiftKind) (rm : RegNum)
  | cmpShr (cond : Cond) (rn sbz : RegNum) (rs : RegNum) (shift : ShiftKind) (rm : RegNum)
  -- CMN (R91, R106; R167)
  | cmnImm (cond : Cond) (rn sbz : RegNum) (rotate : BitVec 4) (imm8 : BitVec 8)
  | cmnShi (cond : Cond) (rn sbz : RegNum) (amount : BitVec 5) (shift : ShiftKind) (rm : RegNum)
  | cmnShr (cond : Cond) (rn sbz : RegNum) (rs : RegNum) (shift : ShiftKind) (rm : RegNum)
  -- ORR (R91, R106; R172)
  | orrImm (cond : Cond) (s : Bool) (rn rd : RegNum) (rotate : BitVec 4) (imm8 : BitVec 8)
  | orrShi (cond : Cond) (s : Bool) (rn rd : RegNum) (amount : BitVec 5) (shift : ShiftKind) (rm : RegNum)
  | orrShr (cond : Cond) (s : Bool) (rn rd : RegNum) (rs : RegNum) (shift : ShiftKind) (rm : RegNum)
  -- MOV (R91, R106; R174)
  | movImm (cond : Cond) (s : Bool) (sbz rd : RegNum) (rotate : BitVec 4) (imm8 : BitVec 8)
  | movShi (cond : Cond) (s : Bool) (sbz rd : RegNum) (amount : BitVec 5) (shift : ShiftKind) (rm : RegNum)
  | movShr (cond : Cond) (s : Bool) (sbz rd : RegNum) (rs : RegNum) (shift : ShiftKind) (rm : RegNum)
  -- BIC (R91, R106; R173)
  | bicImm (cond : Cond) (s : Bool) (rn rd : RegNum) (rotate : BitVec 4) (imm8 : BitVec 8)
  | bicShi (cond : Cond) (s : Bool) (rn rd : RegNum) (amount : BitVec 5) (shift : ShiftKind) (rm : RegNum)
  | bicShr (cond : Cond) (s : Bool) (rn rd : RegNum) (rs : RegNum) (shift : ShiftKind) (rm : RegNum)
  -- MVN (R91, R106; R175)
  | mvnImm (cond : Cond) (s : Bool) (sbz rd : RegNum) (rotate : BitVec 4) (imm8 : BitVec 8)
  | mvnShi (cond : Cond) (s : Bool) (sbz rd : RegNum) (amount : BitVec 5) (shift : ShiftKind) (rm : RegNum)
  | mvnShr (cond : Cond) (s : Bool) (sbz rd : RegNum) (rs : RegNum) (shift : ShiftKind) (rm : RegNum)
  -- Multiply (R92, R93; R191 to R198)
  | mul (cond : Cond) (s : Bool) (rd sbz rs rm : RegNum)
  | mla (cond : Cond) (s : Bool) (rd rn rs rm : RegNum)
  | umull (cond : Cond) (s : Bool) (rdHi rdLo rs rm : RegNum)
  | umlal (cond : Cond) (s : Bool) (rdHi rdLo rs rm : RegNum)
  | smull (cond : Cond) (s : Bool) (rdHi rdLo rs rm : RegNum)
  | smlal (cond : Cond) (s : Bool) (rdHi rdLo rs rm : RegNum)
  -- Swap (R94; R251, R252)
  | swp (cond : Cond) (rn rd rm : RegNum)
  | swpb (cond : Cond) (rn rd rm : RegNum)
  -- Branch and exchange (R95; R264)
  | bx (cond : Cond) (rm : RegNum)
  -- Status register access (R109; R271, R272, R274); `spsr` is the bit R
  | mrs (cond : Cond) (spsr : Bool) (rd : RegNum)
  | msrReg (cond : Cond) (spsr : Bool) (mask : BitVec 4) (rm : RegNum)
  | msrImm (cond : Cond) (spsr : Bool) (mask : BitVec 4) (rotate : BitVec 4) (imm8 : BitVec 8)
  -- Halfword and signed transfer (R96; R212, R213, R215, R216); `offset8` is immedH : immedL
  | strhReg (cond : Cond) (p u w : Bool) (rn rd rm : RegNum)
  | strhImm (cond : Cond) (p u w : Bool) (rn rd : RegNum) (offset8 : BitVec 8)
  | ldrhReg (cond : Cond) (p u w : Bool) (rn rd rm : RegNum)
  | ldrhImm (cond : Cond) (p u w : Bool) (rn rd : RegNum) (offset8 : BitVec 8)
  | ldrsbReg (cond : Cond) (p u w : Bool) (rn rd rm : RegNum)
  | ldrsbImm (cond : Cond) (p u w : Bool) (rn rd : RegNum) (offset8 : BitVec 8)
  | ldrshReg (cond : Cond) (p u w : Bool) (rn rd rm : RegNum)
  | ldrshImm (cond : Cond) (p u w : Bool) (rn rd : RegNum) (offset8 : BitVec 8)
  -- Word and byte transfer (R97; R208 to R211), and the user-privilege forms (R214)
  | strPreImm (cond : Cond) (u w : Bool) (rn rd : RegNum) (offset12 : BitVec 12)
  | strPostImm (cond : Cond) (u : Bool) (rn rd : RegNum) (offset12 : BitVec 12)
  | strtImm (cond : Cond) (u : Bool) (rn rd : RegNum) (offset12 : BitVec 12)
  | strPreReg (cond : Cond) (u w : Bool) (rn rd : RegNum) (amount : BitVec 5) (shift : ShiftKind) (rm : RegNum)
  | strPostReg (cond : Cond) (u : Bool) (rn rd : RegNum) (amount : BitVec 5) (shift : ShiftKind) (rm : RegNum)
  | strtReg (cond : Cond) (u : Bool) (rn rd : RegNum) (amount : BitVec 5) (shift : ShiftKind) (rm : RegNum)
  | ldrPreImm (cond : Cond) (u w : Bool) (rn rd : RegNum) (offset12 : BitVec 12)
  | ldrPostImm (cond : Cond) (u : Bool) (rn rd : RegNum) (offset12 : BitVec 12)
  | ldrtImm (cond : Cond) (u : Bool) (rn rd : RegNum) (offset12 : BitVec 12)
  | ldrPreReg (cond : Cond) (u w : Bool) (rn rd : RegNum) (amount : BitVec 5) (shift : ShiftKind) (rm : RegNum)
  | ldrPostReg (cond : Cond) (u : Bool) (rn rd : RegNum) (amount : BitVec 5) (shift : ShiftKind) (rm : RegNum)
  | ldrtReg (cond : Cond) (u : Bool) (rn rd : RegNum) (amount : BitVec 5) (shift : ShiftKind) (rm : RegNum)
  | strbPreImm (cond : Cond) (u w : Bool) (rn rd : RegNum) (offset12 : BitVec 12)
  | strbPostImm (cond : Cond) (u : Bool) (rn rd : RegNum) (offset12 : BitVec 12)
  | strbtImm (cond : Cond) (u : Bool) (rn rd : RegNum) (offset12 : BitVec 12)
  | strbPreReg (cond : Cond) (u w : Bool) (rn rd : RegNum) (amount : BitVec 5) (shift : ShiftKind) (rm : RegNum)
  | strbPostReg (cond : Cond) (u : Bool) (rn rd : RegNum) (amount : BitVec 5) (shift : ShiftKind) (rm : RegNum)
  | strbtReg (cond : Cond) (u : Bool) (rn rd : RegNum) (amount : BitVec 5) (shift : ShiftKind) (rm : RegNum)
  | ldrbPreImm (cond : Cond) (u w : Bool) (rn rd : RegNum) (offset12 : BitVec 12)
  | ldrbPostImm (cond : Cond) (u : Bool) (rn rd : RegNum) (offset12 : BitVec 12)
  | ldrbtImm (cond : Cond) (u : Bool) (rn rd : RegNum) (offset12 : BitVec 12)
  | ldrbPreReg (cond : Cond) (u w : Bool) (rn rd : RegNum) (amount : BitVec 5) (shift : ShiftKind) (rm : RegNum)
  | ldrbPostReg (cond : Cond) (u : Bool) (rn rd : RegNum) (amount : BitVec 5) (shift : ShiftKind) (rm : RegNum)
  | ldrbtReg (cond : Cond) (u : Bool) (rn rd : RegNum) (amount : BitVec 5) (shift : ShiftKind) (rm : RegNum)
  -- The Undefined format (R98; R285): all but the fixed bits [27:25] and 4 is ignored
  | undefined (cond : Cond) (sbzHi : BitVec 20) (sbzLo : BitVec 4)
  -- Block transfer (R99, R231; R240 to R247); `s` is the option `^`, `w` the option `!`
  | ldmia (cond : Cond) (s w : Bool) (rn : RegNum) (list : BitVec 16)
  | ldmib (cond : Cond) (s w : Bool) (rn : RegNum) (list : BitVec 16)
  | ldmda (cond : Cond) (s w : Bool) (rn : RegNum) (list : BitVec 16)
  | ldmdb (cond : Cond) (s w : Bool) (rn : RegNum) (list : BitVec 16)
  | stmia (cond : Cond) (s w : Bool) (rn : RegNum) (list : BitVec 16)
  | stmib (cond : Cond) (s w : Bool) (rn : RegNum) (list : BitVec 16)
  | stmda (cond : Cond) (s w : Bool) (rn : RegNum) (list : BitVec 16)
  | stmdb (cond : Cond) (s w : Bool) (rn : RegNum) (list : BitVec 16)
  -- Branch (R100; R261, R262)
  | b (cond : Cond) (imm24 : BitVec 24)
  | bl (cond : Cond) (imm24 : BitVec 24)
  -- Coprocessor formats (R101 to R103; R281 to R287)
  | ldc (cond : Cond) (p u n w : Bool) (rn : RegNum) (crd cpNum : BitVec 4) (offset8 : BitVec 8)
  | stc (cond : Cond) (p u n w : Bool) (rn : RegNum) (crd cpNum : BitVec 4) (offset8 : BitVec 8)
  | cdp (cond : Cond) (op1 crn crd cpNum : BitVec 4) (op2 : BitVec 3) (crm : BitVec 4)
  | mcr (cond : Cond) (op1 : BitVec 3) (crn : BitVec 4) (rd : RegNum) (cpNum : BitVec 4) (op2 : BitVec 3) (crm : BitVec 4)
  | mrc (cond : Cond) (op1 : BitVec 3) (crn : BitVec 4) (rd : RegNum) (cpNum : BitVec 4) (op2 : BitVec 3) (crm : BitVec 4)
  -- Software interrupt (R104; R255)
  | swi (cond : Cond) (number : BitVec 24)
  deriving DecidableEq, Repr

/-- The condition of an instruction: every instruction has one (R90, R130). -/
def Instr.cond : Instr → Cond
  | .andImm c _ _ _ _ _ => c
  | .andShi c _ _ _ _ _ _ => c
  | .andShr c _ _ _ _ _ _ => c
  | .eorImm c _ _ _ _ _ => c
  | .eorShi c _ _ _ _ _ _ => c
  | .eorShr c _ _ _ _ _ _ => c
  | .subImm c _ _ _ _ _ => c
  | .subShi c _ _ _ _ _ _ => c
  | .subShr c _ _ _ _ _ _ => c
  | .rsbImm c _ _ _ _ _ => c
  | .rsbShi c _ _ _ _ _ _ => c
  | .rsbShr c _ _ _ _ _ _ => c
  | .addImm c _ _ _ _ _ => c
  | .addShi c _ _ _ _ _ _ => c
  | .addShr c _ _ _ _ _ _ => c
  | .adcImm c _ _ _ _ _ => c
  | .adcShi c _ _ _ _ _ _ => c
  | .adcShr c _ _ _ _ _ _ => c
  | .sbcImm c _ _ _ _ _ => c
  | .sbcShi c _ _ _ _ _ _ => c
  | .sbcShr c _ _ _ _ _ _ => c
  | .rscImm c _ _ _ _ _ => c
  | .rscShi c _ _ _ _ _ _ => c
  | .rscShr c _ _ _ _ _ _ => c
  | .tstImm c _ _ _ _ => c
  | .tstShi c _ _ _ _ _ => c
  | .tstShr c _ _ _ _ _ => c
  | .teqImm c _ _ _ _ => c
  | .teqShi c _ _ _ _ _ => c
  | .teqShr c _ _ _ _ _ => c
  | .cmpImm c _ _ _ _ => c
  | .cmpShi c _ _ _ _ _ => c
  | .cmpShr c _ _ _ _ _ => c
  | .cmnImm c _ _ _ _ => c
  | .cmnShi c _ _ _ _ _ => c
  | .cmnShr c _ _ _ _ _ => c
  | .orrImm c _ _ _ _ _ => c
  | .orrShi c _ _ _ _ _ _ => c
  | .orrShr c _ _ _ _ _ _ => c
  | .movImm c _ _ _ _ _ => c
  | .movShi c _ _ _ _ _ _ => c
  | .movShr c _ _ _ _ _ _ => c
  | .bicImm c _ _ _ _ _ => c
  | .bicShi c _ _ _ _ _ _ => c
  | .bicShr c _ _ _ _ _ _ => c
  | .mvnImm c _ _ _ _ _ => c
  | .mvnShi c _ _ _ _ _ _ => c
  | .mvnShr c _ _ _ _ _ _ => c
  | .mul c _ _ _ _ _ => c
  | .mla c _ _ _ _ _ => c
  | .umull c _ _ _ _ _ => c
  | .umlal c _ _ _ _ _ => c
  | .smull c _ _ _ _ _ => c
  | .smlal c _ _ _ _ _ => c
  | .swp c _ _ _ => c
  | .swpb c _ _ _ => c
  | .bx c _ => c
  | .mrs c _ _ => c
  | .msrReg c _ _ _ => c
  | .msrImm c _ _ _ _ => c
  | .strhReg c _ _ _ _ _ _ => c
  | .strhImm c _ _ _ _ _ _ => c
  | .ldrhReg c _ _ _ _ _ _ => c
  | .ldrhImm c _ _ _ _ _ _ => c
  | .ldrsbReg c _ _ _ _ _ _ => c
  | .ldrsbImm c _ _ _ _ _ _ => c
  | .ldrshReg c _ _ _ _ _ _ => c
  | .ldrshImm c _ _ _ _ _ _ => c
  | .strPreImm c _ _ _ _ _ => c
  | .strPostImm c _ _ _ _ => c
  | .strtImm c _ _ _ _ => c
  | .strPreReg c _ _ _ _ _ _ _ => c
  | .strPostReg c _ _ _ _ _ _ => c
  | .strtReg c _ _ _ _ _ _ => c
  | .ldrPreImm c _ _ _ _ _ => c
  | .ldrPostImm c _ _ _ _ => c
  | .ldrtImm c _ _ _ _ => c
  | .ldrPreReg c _ _ _ _ _ _ _ => c
  | .ldrPostReg c _ _ _ _ _ _ => c
  | .ldrtReg c _ _ _ _ _ _ => c
  | .strbPreImm c _ _ _ _ _ => c
  | .strbPostImm c _ _ _ _ => c
  | .strbtImm c _ _ _ _ => c
  | .strbPreReg c _ _ _ _ _ _ _ => c
  | .strbPostReg c _ _ _ _ _ _ => c
  | .strbtReg c _ _ _ _ _ _ => c
  | .ldrbPreImm c _ _ _ _ _ => c
  | .ldrbPostImm c _ _ _ _ => c
  | .ldrbtImm c _ _ _ _ => c
  | .ldrbPreReg c _ _ _ _ _ _ _ => c
  | .ldrbPostReg c _ _ _ _ _ _ => c
  | .ldrbtReg c _ _ _ _ _ _ => c
  | .undefined c _ _ => c
  | .ldmia c _ _ _ _ => c
  | .ldmib c _ _ _ _ => c
  | .ldmda c _ _ _ _ => c
  | .ldmdb c _ _ _ _ => c
  | .stmia c _ _ _ _ => c
  | .stmib c _ _ _ _ => c
  | .stmda c _ _ _ _ => c
  | .stmdb c _ _ _ _ => c
  | .b c _ => c
  | .bl c _ => c
  | .ldc c _ _ _ _ _ _ _ _ => c
  | .stc c _ _ _ _ _ _ _ _ => c
  | .cdp c _ _ _ _ _ _ => c
  | .mcr c _ _ _ _ _ _ => c
  | .mrc c _ _ _ _ _ _ => c
  | .swi c _ => c

end Sys2Proof
end

