-- ==== Sys2Proof/Decode.lean ====
section
/-! DEFINITION. The decoder (`30_encoding.md` R118: the decision tree of the rule, line by line), total on any
word and on any list of bytes, refusing by name; and after it the encoder, written from the same format tables
(R91 to R109). -/

namespace Sys2Proof

/-- Why a word or a list of bytes is no instruction. -/
inductive DecodeError where
  /-- Bits [31:28] are 1111, which is no condition (R117, R133). -/
  | condition15 (w : Word)
  /-- No row of the opcode table matches the word (R121). -/
  | unallocated (w : Word)
  /-- Fewer than four bytes: an instruction is one 32-bit word (R90). -/
  | truncated
  deriving DecidableEq, Repr

/-! ### Bits of a word (R9) -/

/-- Bit `i` of a word. -/
def bit (w : Word) (i : Nat) : Bool := w.getLsbD i

/-- The field of `n` bits whose lowest is bit `lo`. -/
def field (lo n : Nat) (w : Word) : BitVec n := w.extractLsb' lo n

/-- The word that holds `x` from bit `lo` upwards and zeros elsewhere. -/
def put (lo : Nat) {n : Nat} (x : BitVec n) : Word := x.setWidth 32 <<< lo

/-- The word that holds the one bit `b` at position `i`. -/
def putBit (i : Nat) (b : Bool) : Word := put i (BitVec.ofBool b)

/-! ### The small codes -/

/-- The condition a `cond` field names; 1111 names none (R130, R133). -/
def Cond.ofBits (x : BitVec 4) : Option Cond :=
  match x.toNat with
  | 0 => some .eq | 1 => some .ne | 2 => some .cs | 3 => some .cc
  | 4 => some .mi | 5 => some .pl | 6 => some .vs | 7 => some .vc
  | 8 => some .hi | 9 => some .ls | 10 => some .ge | 11 => some .lt
  | 12 => some .gt | 13 => some .le | 14 => some .al | _ => none

/-- The `cond` field of a condition (R130). -/
def Cond.bits : Cond → BitVec 4
  | .eq => 0 | .ne => 1 | .cs => 2 | .cc => 3 | .mi => 4 | .pl => 5 | .vs => 6 | .vc => 7
  | .hi => 8 | .ls => 9 | .ge => 10 | .lt => 11 | .gt => 12 | .le => 13 | .al => 14

/-- The shift a `shift` field names (R108). -/
def ShiftKind.ofBits (x : BitVec 2) : ShiftKind :=
  match x.toNat with
  | 0 => .lsl | 1 => .lsr | 2 => .asr | _ => .ror

/-- The `shift` field of a shift (R108). -/
def ShiftKind.bits : ShiftKind → BitVec 2
  | .lsl => 0 | .lsr => 1 | .asr => 2 | .ror => 3

/-! ### The decoder -/

/-- Data processing, immediate operand (R91, R111); bits [24:21] select by R106. -/
def decodeDpImm (c : Cond) (w : Word) : Instr :=
  let s := bit w 20
  let rn := field 16 4 w
  let rd := field 12 4 w
  let rotate := field 8 4 w
  let imm8 := field 0 8 w
  match (field 21 4 w).toNat with
  | 0 => .andImm c s rn rd rotate imm8
  | 1 => .eorImm c s rn rd rotate imm8
  | 2 => .subImm c s rn rd rotate imm8
  | 3 => .rsbImm c s rn rd rotate imm8
  | 4 => .addImm c s rn rd rotate imm8
  | 5 => .adcImm c s rn rd rotate imm8
  | 6 => .sbcImm c s rn rd rotate imm8
  | 7 => .rscImm c s rn rd rotate imm8
  | 8 => .tstImm c rn rd rotate imm8
  | 9 => .teqImm c rn rd rotate imm8
  | 10 => .cmpImm c rn rd rotate imm8
  | 11 => .cmnImm c rn rd rotate imm8
  | 12 => .orrImm c s rn rd rotate imm8
  | 13 => .movImm c s rn rd rotate imm8
  | 14 => .bicImm c s rn rd rotate imm8
  | _ => .mvnImm c s rn rd rotate imm8

/-- Data processing, register shifted by an immediate (R91, R107). -/
def decodeDpShi (c : Cond) (w : Word) : Instr :=
  let s := bit w 20
  let rn := field 16 4 w
  let rd := field 12 4 w
  let amount := field 7 5 w
  let shift := ShiftKind.ofBits (field 5 2 w)
  let rm := field 0 4 w
  match (field 21 4 w).toNat with
  | 0 => .andShi c s rn rd amount shift rm
  | 1 => .eorShi c s rn rd amount shift rm
  | 2 => .subShi c s rn rd amount shift rm
  | 3 => .rsbShi c s rn rd amount shift rm
  | 4 => .addShi c s rn rd amount shift rm
  | 5 => .adcShi c s rn rd amount shift rm
  | 6 => .sbcShi c s rn rd amount shift rm
  | 7 => .rscShi c s rn rd amount shift rm
  | 8 => .tstShi c rn rd amount shift rm
  | 9 => .teqShi c rn rd amount shift rm
  | 10 => .cmpShi c rn rd amount shift rm
  | 11 => .cmnShi c rn rd amount shift rm
  | 12 => .orrShi c s rn rd amount shift rm
  | 13 => .movShi c s rn rd amount shift rm
  | 14 => .bicShi c s rn rd amount shift rm
  | _ => .mvnShi c s rn rd amount shift rm

/-- Data processing, register shifted by a register (R91, R107). -/
def decodeDpShr (c : Cond) (w : Word) : Instr :=
  let s := bit w 20
  let rn := field 16 4 w
  let rd := field 12 4 w
  let rs := field 8 4 w
  let shift := ShiftKind.ofBits (field 5 2 w)
  let rm := field 0 4 w
  match (field 21 4 w).toNat with
  | 0 => .andShr c s rn rd rs shift rm
  | 1 => .eorShr c s rn rd rs shift rm
  | 2 => .subShr c s rn rd rs shift rm
  | 3 => .rsbShr c s rn rd rs shift rm
  | 4 => .addShr c s rn rd rs shift rm
  | 5 => .adcShr c s rn rd rs shift rm
  | 6 => .sbcShr c s rn rd rs shift rm
  | 7 => .rscShr c s rn rd rs shift rm
  | 8 => .tstShr c rn rd rs shift rm
  | 9 => .teqShr c rn rd rs shift rm
  | 10 => .cmpShr c rn rd rs shift rm
  | 11 => .cmnShr c rn rd rs shift rm
  | 12 => .orrShr c s rn rd rs shift rm
  | 13 => .movShr c s rn rd rs shift rm
  | 14 => .bicShr c s rn rd rs shift rm
  | _ => .mvnShr c s rn rd rs shift rm

/-- Bits [27:25] = 000, bits 7 and 4 set, bits [6:5] = 00: multiplies and swaps (R92 to R94). -/
def decodeMulSwap (c : Cond) (w : Word) : Except DecodeError Instr :=
  let s := bit w 20
  let a := field 16 4 w
  let d := field 12 4 w
  let rs := field 8 4 w
  let rm := field 0 4 w
  if field 22 3 w = 0 then
    if bit w 21 then .ok (.mla c s a d rs rm) else .ok (.mul c s a d rs rm)
  else if field 23 2 w = 1 then
    match bit w 22, bit w 21 with
    | false, false => .ok (.umull c s a d rs rm)
    | false, true => .ok (.umlal c s a d rs rm)
    | true, false => .ok (.smull c s a d rs rm)
    | true, true => .ok (.smlal c s a d rs rm)
  else if field 23 2 w = 2 ∧ field 20 2 w = 0 ∧ rs = 0 then
    if bit w 22 then .ok (.swpb c a d rm) else .ok (.swp c a d rm)
  else .error (.unallocated w)

/-- Bits [27:25] = 000, bits 7 and 4 set, bits [6:5] not 00: halfword and signed transfers (R96). -/
def decodeHalf (c : Cond) (w : Word) : Except DecodeError Instr :=
  let p := bit w 24
  let u := bit w 23
  let wb := bit w 21
  let rn := field 16 4 w
  let rd := field 12 4 w
  let rm := field 0 4 w
  let offset8 := field 8 4 w ++ field 0 4 w
  if bit w 20 = false ∧ bit w 6 = true then .error (.unallocated w)
  else if bit w 22 = false ∧ field 8 4 w ≠ 0 then .error (.unallocated w)
  else
    match bit w 20, bit w 6, bit w 5, bit w 22 with
    | false, _, _, false => .ok (.strhReg c p u wb rn rd rm)
    | false, _, _, true => .ok (.strhImm c p u wb rn rd offset8)
    | true, false, _, false => .ok (.ldrhReg c p u wb rn rd rm)
    | true, false, _, true => .ok (.ldrhImm c p u wb rn rd offset8)
    | true, true, false, false => .ok (.ldrsbReg c p u wb rn rd rm)
    | true, true, false, true => .ok (.ldrsbImm c p u wb rn rd offset8)
    | true, true, true, false => .ok (.ldrshReg c p u wb rn rd rm)
    | true, true, true, true => .ok (.ldrshImm c p u wb rn rd offset8)

/-- Bits [27:25] = 000, opcode 10xx with S = 0: BX, MRS and MSR from a register (R95, R109). -/
def decodeMisc (c : Cond) (w : Word) : Except DecodeError Instr :=
  if field 4 24 w = 0x12FFF1 then .ok (.bx c (field 0 4 w))
  else if field 20 2 w = 0 ∧ field 16 4 w = 15 ∧ field 0 12 w = 0 then
    .ok (.mrs c (bit w 22) (field 12 4 w))
  else if field 20 2 w = 2 ∧ field 12 4 w = 15 ∧ field 4 8 w = 0 then
    .ok (.msrReg c (bit w 22) (field 16 4 w) (field 0 4 w))
  else .error (.unallocated w)

/-- Bits [27:25] = 000 (R118). -/
def decode000 (c : Cond) (w : Word) : Except DecodeError Instr :=
  if bit w 7 = true ∧ bit w 4 = true then
    if field 5 2 w = 0 then decodeMulSwap c w else decodeHalf c w
  else if field 23 2 w = 2 ∧ bit w 20 = false then decodeMisc c w
  else if bit w 4 then .ok (decodeDpShr c w) else .ok (decodeDpShi c w)

/-- Bits [27:25] = 001 (R118). -/
def decode001 (c : Cond) (w : Word) : Except DecodeError Instr :=
  if field 23 2 w = 2 ∧ bit w 20 = false then
    if bit w 21 = true ∧ field 12 4 w = 15 then
      .ok (.msrImm c (bit w 22) (field 16 4 w) (field 8 4 w) (field 0 8 w))
    else .error (.unallocated w)
  else .ok (decodeDpImm c w)

/-- Bits [27:25] = 010: word and byte transfers with an immediate offset (R97, R214). P = 1 is the
pre-indexed row; P = 0 is the post-indexed row for W = 0 and the user-privilege form for W = 1. -/
def decode010 (c : Cond) (w : Word) : Instr :=
  let u := bit w 23
  let rn := field 16 4 w
  let rd := field 12 4 w
  let off := field 0 12 w
  match bit w 20, bit w 22, bit w 24, bit w 21 with
  | false, false, true, wb => .strPreImm c u wb rn rd off
  | false, false, false, false => .strPostImm c u rn rd off
  | false, false, false, true => .strtImm c u rn rd off
  | true, false, true, wb => .ldrPreImm c u wb rn rd off
  | true, false, false, false => .ldrPostImm c u rn rd off
  | true, false, false, true => .ldrtImm c u rn rd off
  | false, true, true, wb => .strbPreImm c u wb rn rd off
  | false, true, false, false => .strbPostImm c u rn rd off
  | false, true, false, true => .strbtImm c u rn rd off
  | true, true, true, wb => .ldrbPreImm c u wb rn rd off
  | true, true, false, false => .ldrbPostImm c u rn rd off
  | true, true, false, true => .ldrbtImm c u rn rd off

/-- Bits [27:25] = 011: word and byte transfers with a register offset (R97, R107, R214), and with bit 4
set the Undefined format (R98). -/
def decode011 (c : Cond) (w : Word) : Instr :=
  let u := bit w 23
  let rn := field 16 4 w
  let rd := field 12 4 w
  let am := field 7 5 w
  let sh := ShiftKind.ofBits (field 5 2 w)
  let rm := field 0 4 w
  if bit w 4 then .undefined c (field 5 20 w) (field 0 4 w)
  else
    match bit w 20, bit w 22, bit w 24, bit w 21 with
    | false, false, true, wb => .strPreReg c u wb rn rd am sh rm
    | false, false, false, false => .strPostReg c u rn rd am sh rm
    | false, false, false, true => .strtReg c u rn rd am sh rm
    | true, false, true, wb => .ldrPreReg c u wb rn rd am sh rm
    | true, false, false, false => .ldrPostReg c u rn rd am sh rm
    | true, false, false, true => .ldrtReg c u rn rd am sh rm
    | false, true, true, wb => .strbPreReg c u wb rn rd am sh rm
    | false, true, false, false => .strbPostReg c u rn rd am sh rm
    | false, true, false, true => .strbtReg c u rn rd am sh rm
    | true, true, true, wb => .ldrbPreReg c u wb rn rd am sh rm
    | true, true, false, false => .ldrbPostReg c u rn rd am sh rm
    | true, true, false, true => .ldrbtReg c u rn rd am sh rm

/-- Bits [27:25] = 100: block transfers, by L, P and U (R99, R231). -/
def decode100 (c : Cond) (w : Word) : Instr :=
  let s := bit w 22
  let wb := bit w 21
  let rn := field 16 4 w
  let list := field 0 16 w
  match bit w 20, bit w 24, bit w 23 with
  | true, false, true => .ldmia c s wb rn list
  | true, true, true => .ldmib c s wb rn list
  | true, false, false => .ldmda c s wb rn list
  | true, true, false => .ldmdb c s wb rn list
  | false, false, true => .stmia c s wb rn list
  | false, true, true => .stmib c s wb rn list
  | false, false, false => .stmda c s wb rn list
  | false, true, false => .stmdb c s wb rn list

/-- Bits [27:25] = 110: coprocessor data transfers (R101). -/
def decode110 (c : Cond) (w : Word) : Instr :=
  if bit w 20 then
    .ldc c (bit w 24) (bit w 23) (bit w 22) (bit w 21) (field 16 4 w) (field 12 4 w) (field 8 4 w) (field 0 8 w)
  else
    .stc c (bit w 24) (bit w 23) (bit w 22) (bit w 21) (field 16 4 w) (field 12 4 w) (field 8 4 w) (field 0 8 w)

/-- Bits [27:25] = 111: SWI, CDP, MRC and MCR (R102 to R104). -/
def decode111 (c : Cond) (w : Word) : Instr :=
  if bit w 24 then .swi c (field 0 24 w)
  else if bit w 4 = false then
    .cdp c (field 20 4 w) (field 16 4 w) (field 12 4 w) (field 8 4 w) (field 5 3 w) (field 0 4 w)
  else if bit w 20 then
    .mrc c (field 21 3 w) (field 16 4 w) (field 12 4 w) (field 8 4 w) (field 5 3 w) (field 0 4 w)
  else
    .mcr c (field 21 3 w) (field 16 4 w) (field 12 4 w) (field 8 4 w) (field 5 3 w) (field 0 4 w)

/-- The decision on bits [27:25] (R118), for a word whose condition is `c`. -/
def decodeBody (c : Cond) (w : Word) : Except DecodeError Instr :=
  match (field 25 3 w).toNat with
  | 0 => decode000 c w
  | 1 => decode001 c w
  | 2 => .ok (decode010 c w)
  | 3 => .ok (decode011 c w)
  | 4 => .ok (decode100 c w)
  | 5 => if bit w 24 then .ok (.bl c (field 0 24 w)) else .ok (.b c (field 0 24 w))
  | 6 => .ok (decode110 c w)
  | _ => .ok (decode111 c w)

/-- The instruction a word encodes (R118); a word whose condition field is 1111 is none (R117). -/
def decode (w : Word) : Except DecodeError Instr :=
  match Cond.ofBits (field 28 4 w) with
  | none => .error (.condition15 w)
  | some c => decodeBody c w

/-! ### Words and bytes (R62, R63): `bigEnd` is the parameter BIGEND -/

/-- The word whose four bytes stand at rising addresses (R63). -/
def wordOfBytes (bigEnd : Bool) (b0 b1 b2 b3 : Byte) : Word :=
  if bigEnd then b0 ++ b1 ++ b2 ++ b3 else b3 ++ b2 ++ b1 ++ b0

/-- Byte `k` (0 to 3) of a word as it stands in memory, counted from the lowest address (R63). -/
def byteOfWord (bigEnd : Bool) (w : Word) (k : Nat) : Byte :=
  if bigEnd then w.extractLsb' (8 * (3 - k)) 8 else w.extractLsb' (8 * k) 8

/-- The four bytes of a word at rising addresses (R63). -/
def bytesOfWord (bigEnd : Bool) (w : Word) : List Byte :=
  [byteOfWord bigEnd w 0, byteOfWord bigEnd w 1, byteOfWord bigEnd w 2, byteOfWord bigEnd w 3]

/-- The instruction at the head of a list of bytes, and the bytes after it. -/
def decodeBytes (bigEnd : Bool) : List Byte → Except DecodeError (Instr × List Byte)
  | b0 :: b1 :: b2 :: b3 :: rest =>
    match decode (wordOfBytes bigEnd b0 b1 b2 b3) with
    | .ok i => .ok (i, rest)
    | .error e => .error e
  | _ => .error .truncated

/-- What the decoder reads from an instruction whose bits are `w`, of which the table gives `nbits`; the bits
above `nbits` are 0. The word is laid out as memory holds it with the default byte order (little-endian). -/
def decodeTableWord (nbits w : Nat) : Option Instr :=
  match decodeBytes false (bytesOfWord false (BitVec.ofNat 32 (w % 2 ^ nbits))) with
  | .ok (i, _) => some i
  | .error _ => none

/-! ### The encoder -/

/-- The condition field of a word (R90). -/
def putCond (c : Cond) : Word := put 28 c.bits

/-- Format DP, immediate operand: opcode, S, Rn, Rd, rotate_imm, imm8 (R91, R111). -/
def encodeDpImm (op : BitVec 4) (c : Cond) (s : Bool) (rn rd rotate : BitVec 4) (imm8 : BitVec 8) : Word :=
  putCond c ||| put 25 1#3 ||| put 21 op ||| putBit 20 s ||| put 16 rn ||| put 12 rd ||| put 8 rotate ||| put 0 imm8

/-- Format DP, register shifted by an immediate (R91, R107). -/
def encodeDpShi (op : BitVec 4) (c : Cond) (s : Bool) (rn rd : BitVec 4) (am : BitVec 5) (sh : ShiftKind)
    (rm : BitVec 4) : Word :=
  putCond c ||| put 21 op ||| putBit 20 s ||| put 16 rn ||| put 12 rd ||| put 7 am ||| put 5 sh.bits ||| put 0 rm

/-- Format DP, register shifted by a register: bit 4 set, bit 7 clear (R91, R107). -/
def encodeDpShr (op : BitVec 4) (c : Cond) (s : Bool) (rn rd rs : BitVec 4) (sh : ShiftKind) (rm : BitVec 4) : Word :=
  putCond c ||| put 21 op ||| putBit 20 s ||| put 16 rn ||| put 12 rd ||| put 8 rs ||| put 5 sh.bits ||| put 4 1#1 |||
    put 0 rm

/-- Formats MUL and MULL: `kind` is bits [23:21], the rest as in R92 and R93. -/
def encodeMul (kind : BitVec 3) (c : Cond) (s : Bool) (a d rs rm : BitVec 4) : Word :=
  putCond c ||| put 21 kind ||| putBit 20 s ||| put 16 a ||| put 12 d ||| put 8 rs ||| put 4 9#4 ||| put 0 rm

/-- Format SWP; `b` is the byte bit (R94). -/
def encodeSwap (b : Bool) (c : Cond) (rn rd rm : BitVec 4) : Word :=
  putCond c ||| put 23 2#5 ||| putBit 22 b ||| put 16 rn ||| put 12 rd ||| put 4 9#4 ||| put 0 rm

/-- Format HW; `l` is the load bit, `sh` the bits S and H (R96). -/
def encodeHalfReg (l : Bool) (sh : BitVec 2) (c : Cond) (p u w : Bool) (rn rd rm : BitVec 4) : Word :=
  putCond c ||| putBit 24 p ||| putBit 23 u ||| putBit 21 w ||| putBit 20 l ||| put 16 rn ||| put 12 rd |||
    put 7 1#1 ||| put 5 sh ||| put 4 1#1 ||| put 0 rm

/-- Format HW with the immediate offset split into two halves (R96). -/
def encodeHalfImm (l : Bool) (sh : BitVec 2) (c : Cond) (p u w : Bool) (rn rd : BitVec 4) (off : BitVec 8) : Word :=
  putCond c ||| putBit 24 p ||| putBit 23 u ||| put 22 1#1 ||| putBit 21 w ||| putBit 20 l ||| put 16 rn ||| put 12 rd |||
    put 8 (off.extractLsb' 4 4) ||| put 7 1#1 ||| put 5 sh ||| put 4 1#1 ||| put 0 (off.extractLsb' 0 4)

/-- Format SDT with an immediate offset (R97). -/
def encodeSdtImm (b l : Bool) (c : Cond) (p u w : Bool) (rn rd : BitVec 4) (off : BitVec 12) : Word :=
  putCond c ||| put 25 2#3 ||| putBit 24 p ||| putBit 23 u ||| putBit 22 b ||| putBit 21 w ||| putBit 20 l |||
    put 16 rn ||| put 12 rd ||| put 0 off

/-- Format SDT with a register offset: I set, bit 4 clear (R97, R107). -/
def encodeSdtReg (b l : Bool) (c : Cond) (p u w : Bool) (rn rd : BitVec 4) (am : BitVec 5) (sh : ShiftKind)
    (rm : BitVec 4) : Word :=
  putCond c ||| put 25 3#3 ||| putBit 24 p ||| putBit 23 u ||| putBit 22 b ||| putBit 21 w ||| putBit 20 l |||
    put 16 rn ||| put 12 rd ||| put 7 am ||| put 5 sh.bits ||| put 0 rm

/-- Format BDT; `p`, `u`, `l` select the row (R99, R231). -/
def encodeBlock (p u l : Bool) (c : Cond) (s w : Bool) (rn : BitVec 4) (list : BitVec 16) : Word :=
  putCond c ||| put 25 4#3 ||| putBit 24 p ||| putBit 23 u ||| putBit 22 s ||| putBit 21 w ||| putBit 20 l |||
    put 16 rn ||| put 0 list

/-- Format CPDT; `l` is the load bit (R101). -/
def encodeCpTransfer (l : Bool) (c : Cond) (p u n w : Bool) (rn crd cp : BitVec 4) (off : BitVec 8) : Word :=
  putCond c ||| put 25 6#3 ||| putBit 24 p ||| putBit 23 u ||| putBit 22 n ||| putBit 21 w ||| putBit 20 l |||
    put 16 rn ||| put 12 crd ||| put 8 cp ||| put 0 off

/-- Format CPRT; `l` is 1 for MRC (R103). -/
def encodeCpRegister (l : Bool) (c : Cond) (op1 : BitVec 3) (crn rd cp : BitVec 4) (op2 : BitVec 3) (crm : BitVec 4) :
    Word :=
  putCond c ||| put 24 14#4 ||| put 21 op1 ||| putBit 20 l ||| put 16 crn ||| put 12 rd ||| put 8 cp ||| put 5 op2 |||
    put 4 1#1 ||| put 0 crm

/-- The word of an instruction (R91 to R109). -/
def encode : Instr → Word
  | .andImm c s rn rd rot imm => encodeDpImm 0 c s rn rd rot imm
  | .andShi c s rn rd am sh rm => encodeDpShi 0 c s rn rd am sh rm
  | .andShr c s rn rd rs sh rm => encodeDpShr 0 c s rn rd rs sh rm
  | .eorImm c s rn rd rot imm => encodeDpImm 1 c s rn rd rot imm
  | .eorShi c s rn rd am sh rm => encodeDpShi 1 c s rn rd am sh rm
  | .eorShr c s rn rd rs sh rm => encodeDpShr 1 c s rn rd rs sh rm
  | .subImm c s rn rd rot imm => encodeDpImm 2 c s rn rd rot imm
  | .subShi c s rn rd am sh rm => encodeDpShi 2 c s rn rd am sh rm
  | .subShr c s rn rd rs sh rm => encodeDpShr 2 c s rn rd rs sh rm
  | .rsbImm c s rn rd rot imm => encodeDpImm 3 c s rn rd rot imm
  | .rsbShi c s rn rd am sh rm => encodeDpShi 3 c s rn rd am sh rm
  | .rsbShr c s rn rd rs sh rm => encodeDpShr 3 c s rn rd rs sh rm
  | .addImm c s rn rd rot imm => encodeDpImm 4 c s rn rd rot imm
  | .addShi c s rn rd am sh rm => encodeDpShi 4 c s rn rd am sh rm
  | .addShr c s rn rd rs sh rm => encodeDpShr 4 c s rn rd rs sh rm
  | .adcImm c s rn rd rot imm => encodeDpImm 5 c s rn rd rot imm
  | .adcShi c s rn rd am sh rm => encodeDpShi 5 c s rn rd am sh rm
  | .adcShr c s rn rd rs sh rm => encodeDpShr 5 c s rn rd rs sh rm
  | .sbcImm c s rn rd rot imm => encodeDpImm 6 c s rn rd rot imm
  | .sbcShi c s rn rd am sh rm => encodeDpShi 6 c s rn rd am sh rm
  | .sbcShr c s rn rd rs sh rm => encodeDpShr 6 c s rn rd rs sh rm
  | .rscImm c s rn rd rot imm => encodeDpImm 7 c s rn rd rot imm
  | .rscShi c s rn rd am sh rm => encodeDpShi 7 c s rn rd am sh rm
  | .rscShr c s rn rd rs sh rm => encodeDpShr 7 c s rn rd rs sh rm
  | .tstImm c rn rd rot imm => encodeDpImm 8 c true rn rd rot imm
  | .tstShi c rn rd am sh rm => encodeDpShi 8 c true rn rd am sh rm
  | .tstShr c rn rd rs sh rm => encodeDpShr 8 c true rn rd rs sh rm
  | .teqImm c rn rd rot imm => encodeDpImm 9 c true rn rd rot imm
  | .teqShi c rn rd am sh rm => encodeDpShi 9 c true rn rd am sh rm
  | .teqShr c rn rd rs sh rm => encodeDpShr 9 c true rn rd rs sh rm
  | .cmpImm c rn rd rot imm => encodeDpImm 10 c true rn rd rot imm
  | .cmpShi c rn rd am sh rm => encodeDpShi 10 c true rn rd am sh rm
  | .cmpShr c rn rd rs sh rm => encodeDpShr 10 c true rn rd rs sh rm
  | .cmnImm c rn rd rot imm => encodeDpImm 11 c true rn rd rot imm
  | .cmnShi c rn rd am sh rm => encodeDpShi 11 c true rn rd am sh rm
  | .cmnShr c rn rd rs sh rm => encodeDpShr 11 c true rn rd rs sh rm
  | .orrImm c s rn rd rot imm => encodeDpImm 12 c s rn rd rot imm
  | .orrShi c s rn rd am sh rm => encodeDpShi 12 c s rn rd am sh rm
  | .orrShr c s rn rd rs sh rm => encodeDpShr 12 c s rn rd rs sh rm
  | .movImm c s rn rd rot imm => encodeDpImm 13 c s rn rd rot imm
  | .movShi c s rn rd am sh rm => encodeDpShi 13 c s rn rd am sh rm
  | .movShr c s rn rd rs sh rm => encodeDpShr 13 c s rn rd rs sh rm
  | .bicImm c s rn rd rot imm => encodeDpImm 14 c s rn rd rot imm
  | .bicShi c s rn rd am sh rm => encodeDpShi 14 c s rn rd am sh rm
  | .bicShr c s rn rd rs sh rm => encodeDpShr 14 c s rn rd rs sh rm
  | .mvnImm c s rn rd rot imm => encodeDpImm 15 c s rn rd rot imm
  | .mvnShi c s rn rd am sh rm => encodeDpShi 15 c s rn rd am sh rm
  | .mvnShr c s rn rd rs sh rm => encodeDpShr 15 c s rn rd rs sh rm
  | .mul c s a d rs rm => encodeMul 0 c s a d rs rm
  | .mla c s a d rs rm => encodeMul 1 c s a d rs rm
  | .umull c s a d rs rm => encodeMul 4 c s a d rs rm
  | .umlal c s a d rs rm => encodeMul 5 c s a d rs rm
  | .smull c s a d rs rm => encodeMul 6 c s a d rs rm
  | .smlal c s a d rs rm => encodeMul 7 c s a d rs rm
  | .swp c rn rd rm => encodeSwap false c rn rd rm
  | .swpb c rn rd rm => encodeSwap true c rn rd rm
  | .bx c rm => putCond c ||| put 4 0x12FFF1#24 ||| put 0 rm
  | .mrs c r rd => putCond c ||| put 23 2#5 ||| putBit 22 r ||| put 16 15#4 ||| put 12 rd
  | .msrReg c r mask rm =>
    putCond c ||| put 23 2#5 ||| putBit 22 r ||| put 20 2#2 ||| put 16 mask ||| put 12 15#4 ||| put 0 rm
  | .msrImm c r mask rot imm =>
    putCond c ||| put 23 6#5 ||| putBit 22 r ||| put 20 2#2 ||| put 16 mask ||| put 12 15#4 ||| put 8 rot ||| put 0 imm
  | .strhReg c p u w rn rd rm => encodeHalfReg false 1 c p u w rn rd rm
  | .strhImm c p u w rn rd off => encodeHalfImm false 1 c p u w rn rd off
  | .ldrhReg c p u w rn rd rm => encodeHalfReg true 1 c p u w rn rd rm
  | .ldrhImm c p u w rn rd off => encodeHalfImm true 1 c p u w rn rd off
  | .ldrsbReg c p u w rn rd rm => encodeHalfReg true 2 c p u w rn rd rm
  | .ldrsbImm c p u w rn rd off => encodeHalfImm true 2 c p u w rn rd off
  | .ldrshReg c p u w rn rd rm => encodeHalfReg true 3 c p u w rn rd rm
  | .ldrshImm c p u w rn rd off => encodeHalfImm true 3 c p u w rn rd off
  | .strPreImm c u w rn rd off => encodeSdtImm false false c true u w rn rd off
  | .strPostImm c u rn rd off => encodeSdtImm false false c false u false rn rd off
  | .strtImm c u rn rd off => encodeSdtImm false false c false u true rn rd off
  | .strPreReg c u w rn rd am sh rm => encodeSdtReg false false c true u w rn rd am sh rm
  | .strPostReg c u rn rd am sh rm => encodeSdtReg false false c false u false rn rd am sh rm
  | .strtReg c u rn rd am sh rm => encodeSdtReg false false c false u true rn rd am sh rm
  | .ldrPreImm c u w rn rd off => encodeSdtImm false true c true u w rn rd off
  | .ldrPostImm c u rn rd off => encodeSdtImm false true c false u false rn rd off
  | .ldrtImm c u rn rd off => encodeSdtImm false true c false u true rn rd off
  | .ldrPreReg c u w rn rd am sh rm => encodeSdtReg false true c true u w rn rd am sh rm
  | .ldrPostReg c u rn rd am sh rm => encodeSdtReg false true c false u false rn rd am sh rm
  | .ldrtReg c u rn rd am sh rm => encodeSdtReg false true c false u true rn rd am sh rm
  | .strbPreImm c u w rn rd off => encodeSdtImm true false c true u w rn rd off
  | .strbPostImm c u rn rd off => encodeSdtImm true false c false u false rn rd off
  | .strbtImm c u rn rd off => encodeSdtImm true false c false u true rn rd off
  | .strbPreReg c u w rn rd am sh rm => encodeSdtReg true false c true u w rn rd am sh rm
  | .strbPostReg c u rn rd am sh rm => encodeSdtReg true false c false u false rn rd am sh rm
  | .strbtReg c u rn rd am sh rm => encodeSdtReg true false c false u true rn rd am sh rm
  | .ldrbPreImm c u w rn rd off => encodeSdtImm true true c true u w rn rd off
  | .ldrbPostImm c u rn rd off => encodeSdtImm true true c false u false rn rd off
  | .ldrbtImm c u rn rd off => encodeSdtImm true true c false u true rn rd off
  | .ldrbPreReg c u w rn rd am sh rm => encodeSdtReg true true c true u w rn rd am sh rm
  | .ldrbPostReg c u rn rd am sh rm => encodeSdtReg true true c false u false rn rd am sh rm
  | .ldrbtReg c u rn rd am sh rm => encodeSdtReg true true c false u true rn rd am sh rm
  | .undefined c hi lo => putCond c ||| put 25 3#3 ||| put 5 hi ||| put 4 1#1 ||| put 0 lo
  | .ldmia c s w rn list => encodeBlock false true true c s w rn list
  | .ldmib c s w rn list => encodeBlock true true true c s w rn list
  | .ldmda c s w rn list => encodeBlock false false true c s w rn list
  | .ldmdb c s w rn list => encodeBlock true false true c s w rn list
  | .stmia c s w rn list => encodeBlock false true false c s w rn list
  | .stmib c s w rn list => encodeBlock true true false c s w rn list
  | .stmda c s w rn list => encodeBlock false false false c s w rn list
  | .stmdb c s w rn list => encodeBlock true false false c s w rn list
  | .b c imm => putCond c ||| put 24 10#4 ||| put 0 imm
  | .bl c imm => putCond c ||| put 24 11#4 ||| put 0 imm
  | .ldc c p u n w rn crd cp off => encodeCpTransfer true c p u n w rn crd cp off
  | .stc c p u n w rn crd cp off => encodeCpTransfer false c p u n w rn crd cp off
  | .cdp c op1 crn crd cp op2 crm =>
    putCond c ||| put 24 14#4 ||| put 20 op1 ||| put 16 crn ||| put 12 crd ||| put 8 cp ||| put 5 op2 ||| put 0 crm
  | .mcr c op1 crn rd cp op2 crm => encodeCpRegister false c op1 crn rd cp op2 crm
  | .mrc c op1 crn rd cp op2 crm => encodeCpRegister true c op1 crn rd cp op2 crm
  | .swi c number => putCond c ||| put 24 15#4 ||| put 0 number

end Sys2Proof
end

