-- ==== Sys2Proof/Machine/Memory.lean ====
section
/-! DEFINITION. Memory as a canonical list of bytes (`20_memory.md` R60): addresses strictly rising and below 2^32. An
address that is not listed has no value (D26, D27), so no entry can equal what an unlisted address reads as. -/

namespace Sys2Proof.Machine

/-- The byte at an address; `none` where nothing has been written. -/
def Memory.read : Memory → Nat → Option Byte
  | [], _ => none
  | (k, b) :: rest, a => if a = k then some b else Memory.read rest a

/-- The memory with one byte written, the addresses kept rising. -/
def Memory.write : Memory → Nat → Byte → Memory
  | [], a, v => [(a, v)]
  | (k, b) :: rest, a, v =>
    if a < k then (a, v) :: (k, b) :: rest
    else if a = k then (k, v) :: rest
    else (k, b) :: Memory.write rest a v

/-- The memory with bytes written at rising addresses from `a` on, modulo 2^32 (R63). -/
def Memory.writeAll : Memory → Word → List Byte → Memory
  | m, _, [] => m
  | m, a, b :: bs => Memory.writeAll (m.write a.toNat b) (a + 1) bs

/-- Addresses rise strictly from `lo` on and stay below 2^32. -/
def Memory.risesFrom (lo : Nat) : Memory → Bool
  | [] => true
  | (k, _) :: rest => decide (lo ≤ k) && decide (k < 2 ^ 32) && Memory.risesFrom (k + 1) rest

/-- The canonical form of a memory. -/
def Memory.wf (m : Memory) : Bool := m.risesFrom 0

end Sys2Proof.Machine
end

