-- ==== Sys2Proof/Machine/Modes.lean ====
section
/-! DEFINITION. Modes, status registers as words, and the banked register file (`10_state.md` R22 to R24, R41 to R46). -/

namespace Sys2Proof.Machine

/-- The encoding of a mode in M[4:0] (R44). -/
def Mode.bits : Mode → BitVec 5
  | .usr => 0b10000
  | .fiq => 0b10001
  | .irq => 0b10010
  | .svc => 0b10011
  | .abt => 0b10111
  | .und => 0b11011
  | .sys => 0b11111

/-- The mode that M[4:0] encodes; 25 values encode none (R44). -/
def Mode.ofBits (m : BitVec 5) : Option Mode :=
  match m.toNat with
  | 16 => some .usr
  | 17 => some .fiq
  | 18 => some .irq
  | 19 => some .svc
  | 23 => some .abt
  | 27 => some .und
  | 31 => some .sys
  | _ => none

/-- The mode of a status register, if its mode field is legal. -/
def Psr.mode (p : Psr) : Option Mode := Mode.ofBits p.m

/-- A status register as MRS reads it (R41, R271): bits [27:8] read as zero (R45). -/
def Psr.toWord (p : Psr) : Word :=
  BitVec.ofBool p.n ++ BitVec.ofBool p.z ++ BitVec.ofBool p.c ++ BitVec.ofBool p.v ++ 0#20 ++ BitVec.ofBool p.i ++
    BitVec.ofBool p.f ++ BitVec.ofBool p.t ++ p.m

/-- The status register that a word holds by the layout of R41; bits [27:8] are ignored (R45). -/
def Psr.ofWord (w : Word) : Psr :=
  { n := w.getLsbD 31, z := w.getLsbD 30, c := w.getLsbD 29, v := w.getLsbD 28
    i := w.getLsbD 7, f := w.getLsbD 6, t := w.getLsbD 5, m := w.extractLsb' 0 5 }

/-- `InPrivilegedMode()` (`00_scope.md` R18, `60_exceptions.md` R330). -/
def State.privileged (s : State) : Bool := s.cpsr.m != Mode.usr.bits

/-- The contents of a physical register. -/
def Regs.get (g : Regs) : PhysReg → Word
  | .r0 => g.r0
  | .r1 => g.r1
  | .r2 => g.r2
  | .r3 => g.r3
  | .r4 => g.r4
  | .r5 => g.r5
  | .r6 => g.r6
  | .r7 => g.r7
  | .r8 => g.r8
  | .r9 => g.r9
  | .r10 => g.r10
  | .r11 => g.r11
  | .r12 => g.r12
  | .r13 => g.r13
  | .r14 => g.r14
  | .r8Fiq => g.r8Fiq
  | .r9Fiq => g.r9Fiq
  | .r10Fiq => g.r10Fiq
  | .r11Fiq => g.r11Fiq
  | .r12Fiq => g.r12Fiq
  | .r13Fiq => g.r13Fiq
  | .r14Fiq => g.r14Fiq
  | .r13Svc => g.r13Svc
  | .r14Svc => g.r14Svc
  | .r13Abt => g.r13Abt
  | .r14Abt => g.r14Abt
  | .r13Und => g.r13Und
  | .r14Und => g.r14Und
  | .r13Irq => g.r13Irq
  | .r14Irq => g.r14Irq

/-- The register file with one physical register written. -/
def Regs.set (g : Regs) (p : PhysReg) (v : Word) : Regs :=
  match p with
  | .r0 => { g with r0 := v }
  | .r1 => { g with r1 := v }
  | .r2 => { g with r2 := v }
  | .r3 => { g with r3 := v }
  | .r4 => { g with r4 := v }
  | .r5 => { g with r5 := v }
  | .r6 => { g with r6 := v }
  | .r7 => { g with r7 := v }
  | .r8 => { g with r8 := v }
  | .r9 => { g with r9 := v }
  | .r10 => { g with r10 := v }
  | .r11 => { g with r11 := v }
  | .r12 => { g with r12 := v }
  | .r13 => { g with r13 := v }
  | .r14 => { g with r14 := v }
  | .r8Fiq => { g with r8Fiq := v }
  | .r9Fiq => { g with r9Fiq := v }
  | .r10Fiq => { g with r10Fiq := v }
  | .r11Fiq => { g with r11Fiq := v }
  | .r12Fiq => { g with r12Fiq := v }
  | .r13Fiq => { g with r13Fiq := v }
  | .r14Fiq => { g with r14Fiq := v }
  | .r13Svc => { g with r13Svc := v }
  | .r14Svc => { g with r14Svc := v }
  | .r13Abt => { g with r13Abt := v }
  | .r14Abt => { g with r14Abt := v }
  | .r13Und => { g with r13Und := v }
  | .r14Und => { g with r14Und := v }
  | .r13Irq => { g with r13Irq := v }
  | .r14Irq => { g with r14Irq := v }

/-- The register file with every cell a free value, drawn from number `k` on (R350, R351). -/
def Regs.free (k : Nat) : Regs :=
  { r0 := Config.freeWord (k + 0), r1 := Config.freeWord (k + 1), r2 := Config.freeWord (k + 2),
    r3 := Config.freeWord (k + 3), r4 := Config.freeWord (k + 4), r5 := Config.freeWord (k + 5),
    r6 := Config.freeWord (k + 6), r7 := Config.freeWord (k + 7), r8 := Config.freeWord (k + 8),
    r9 := Config.freeWord (k + 9), r10 := Config.freeWord (k + 10), r11 := Config.freeWord (k + 11),
    r12 := Config.freeWord (k + 12), r13 := Config.freeWord (k + 13), r14 := Config.freeWord (k + 14),
    r8Fiq := Config.freeWord (k + 15), r9Fiq := Config.freeWord (k + 16), r10Fiq := Config.freeWord (k + 17),
    r11Fiq := Config.freeWord (k + 18), r12Fiq := Config.freeWord (k + 19), r13Fiq := Config.freeWord (k + 20),
    r14Fiq := Config.freeWord (k + 21), r13Svc := Config.freeWord (k + 22), r14Svc := Config.freeWord (k + 23),
    r13Abt := Config.freeWord (k + 24), r14Abt := Config.freeWord (k + 25), r13Und := Config.freeWord (k + 26),
    r14Und := Config.freeWord (k + 27), r13Irq := Config.freeWord (k + 28), r14Irq := Config.freeWord (k + 29) }

/-- R13 of the bank that M[4:0] selects (R22). -/
def bankR13 (m : BitVec 5) : PhysReg :=
  match Mode.ofBits m with
  | some .fiq => .r13Fiq
  | some .svc => .r13Svc
  | some .abt => .r13Abt
  | some .und => .r13Und
  | some .irq => .r13Irq
  | _ => .r13

/-- R14 of the bank that M[4:0] selects (R22). -/
def bankR14 (m : BitVec 5) : PhysReg :=
  match Mode.ofBits m with
  | some .fiq => .r14Fiq
  | some .svc => .r14Svc
  | some .abt => .r14Abt
  | some .und => .r14Und
  | some .irq => .r14Irq
  | _ => .r14

/-- The physical register that the name Ri selects under M[4:0] (the bank table of R22; R24). R15 is none: it is not banked
and is kept apart (`State.pc`). A mode field that is none of the seven selects the usr bank; no run has one. -/
def phys (m : BitVec 5) (i : RegNum) : Option PhysReg :=
  match i.toNat with
  | 0 => some .r0
  | 1 => some .r1
  | 2 => some .r2
  | 3 => some .r3
  | 4 => some .r4
  | 5 => some .r5
  | 6 => some .r6
  | 7 => some .r7
  | 8 => some (if m = Mode.fiq.bits then .r8Fiq else .r8)
  | 9 => some (if m = Mode.fiq.bits then .r9Fiq else .r9)
  | 10 => some (if m = Mode.fiq.bits then .r10Fiq else .r10)
  | 11 => some (if m = Mode.fiq.bits then .r11Fiq else .r11)
  | 12 => some (if m = Mode.fiq.bits then .r12Fiq else .r12)
  | 13 => some (bankR13 m)
  | 14 => some (bankR14 m)
  | _ => none

/-- The register file with the register that the name Ri selects under M[4:0] written (R22, R24). R15 has no cell here. -/
def Regs.write (g : Regs) (m : BitVec 5) (i : RegNum) (v : Word) : Regs :=
  match phys m i with
  | some p => g.set p v
  | none => g

/-- A register name that is banked under M[4:0]: R13 and R14 in an exception mode, R8 to R14 in fiq mode (R365). -/
def banked (m : BitVec 5) (i : RegNum) : Bool := phys m i != phys Mode.usr.bits i

end Sys2Proof.Machine
end

