-- ==== Sys2Proof/Machine/Ops.lean ====
section
/-! DEFINITION. The named operations of the machine: registers and the PC, memory accesses, taking an exception
(`60_exceptions.md` R310) and returning from one (R320), and the frame every instruction is executed in (R132). -/

namespace Sys2Proof.Machine

/-! ### Registers (`00_scope.md` R12) -/

/-- `x[i]`: register Ri in the current mode; R15 reads as `pc + 8` (`10_state.md` R32). -/
def State.readReg (s : State) (i : RegNum) : Word :=
  match phys s.cpsr.m i with
  | some p => s.regs.get p
  | none => s.pc + 8

/-- `x[i] <- v`: write Ri in the current mode; for R15 bits [1:0] of the value are discarded (R33). -/
def State.writeReg (s : State) (i : RegNum) (v : Word) : State :=
  if i = 15 then { s with pc := v &&& 0xFFFFFFFC } else { s with regs := s.regs.write s.cpsr.m i v }

/-- `x_usr[i]`: register Ri of the User bank, whatever the mode. -/
def State.readUser (s : State) (i : RegNum) : Word :=
  match phys Mode.usr.bits i with
  | some p => s.regs.get p
  | none => s.pc + 8

/-- `x_usr[i] <- v`. -/
def State.writeUser (s : State) (i : RegNum) (v : Word) : State :=
  if i = 15 then { s with pc := v &&& 0xFFFFFFFC } else { s with regs := s.regs.write Mode.usr.bits i v }

/-- Write the base register, where there is a write-back value (`43_load_store.md` R202). -/
def State.writeBase (s : State) (i : RegNum) : Option Word → State
  | some v => s.writeReg i v
  | none => s

/-! ### Status registers -/

/-- The SPSR of the current mode; usr and sys have none (R46). -/
def State.spsr (s : State) : Option Psr :=
  match s.cpsr.mode with
  | some .svc => some s.spsrSvc
  | some .abt => some s.spsrAbt
  | some .und => some s.spsrUnd
  | some .irq => some s.spsrIrq
  | some .fiq => some s.spsrFiq
  | _ => none

/-- Write the SPSR of a mode; usr and sys have none (R46). -/
def State.setSpsr (s : State) (m : Mode) (p : Psr) : State :=
  match m with
  | .svc => { s with spsrSvc := p }
  | .abt => { s with spsrAbt := p }
  | .und => { s with spsrUnd := p }
  | .irq => { s with spsrIrq := p }
  | .fiq => { s with spsrFiq := p }
  | .usr => s
  | .sys => s

/-! ### The program counter -/

/-- No PC write: the next instruction is at `pc + 4`; past 0xFFFFFFFC there is none (`10_state.md` R31, R34). -/
def State.advance (s : State) : Out :=
  if s.pc = 0xFFFFFFFC then .fault .pcWrap
  else .next { s with pc := s.pc + 4, afterUserBank := false }

/-- `pc <- v`: bits [1:0] are discarded (R33) and the prefetched instructions with it (`20_memory.md` R79). -/
def State.branchTo (s : State) (v : Word) : Out :=
  .next { s with pc := v &&& 0xFFFFFFFC, stale := [], afterUserBank := false }

/-! ### Exceptions (`60_exceptions.md`) -/

/-- The seven exceptions (R300). -/
inductive Exc where
  | reset | undefined | swi | prefetchAbort | dataAbort | irq | fiq
  deriving DecidableEq, Repr

/-- The mode an exception enters (R300). -/
def Exc.mode : Exc → Mode
  | .reset => .svc
  | .undefined => .und
  | .swi => .svc
  | .prefetchAbort => .abt
  | .dataAbort => .abt
  | .irq => .irq
  | .fiq => .fiq

/-- The vector address of an exception (R300, `20_memory.md` R70). -/
def Exc.vector : Exc → Word
  | .reset => 0x00
  | .undefined => 0x04
  | .swi => 0x08
  | .prefetchAbort => 0x0C
  | .dataAbort => 0x10
  | .irq => 0x18
  | .fiq => 0x1C

/-- `ReturnAddress(E)` (R311). Reset has none: its R14 is unspecified (`State.takeReset`). -/
def Exc.returnAddress (e : Exc) (pc : Word) : Word :=
  match e with
  | .dataAbort => pc + 8
  | _ => pc + 4

/-- The CPSR that the entry leaves: M of the exception, I set, F set for fiq and Reset, T cleared, and N, Z, C, V kept
(R310). -/
def Exc.entryPsr (e : Exc) (p : Psr) : Psr :=
  { p with i := true, f := decide (e = .fiq) || decide (e = .reset) || p.f, t := false, m := e.mode.bits }

/-- Reset at an instruction boundary (R310, `70_reset_and_hazards.md` R350, R351): svc mode, I and F set, T clear, PC = 0.
The flags, every general register and every SPSR are free values; memory is kept (log entry 7). -/
def State.takeReset (s : State) : State :=
  { s with
    regs := Regs.free s.draws
    pc := Exc.reset.vector
    cpsr := Exc.reset.entryPsr (Psr.ofWord (Config.freeWord (s.draws + 30)))
    spsrSvc := Psr.ofWord (Config.freeWord (s.draws + 31))
    spsrAbt := Psr.ofWord (Config.freeWord (s.draws + 32))
    spsrUnd := Psr.ofWord (Config.freeWord (s.draws + 33))
    spsrIrq := Psr.ofWord (Config.freeWord (s.draws + 34))
    spsrFiq := Psr.ofWord (Config.freeWord (s.draws + 35))
    stale := []
    afterUserBank := false
    draws := s.draws + 36 }

/-- Exception entry, the source's six steps (R310): save the CPSR in SPSR_m, change the CPSR, save the return address in
R14 of the mode entered, go to the vector. Nothing else changes but the prefetch, which is discarded (R312, R313), and the
hazard of R365. DESIGN CHOICE, unsafe (log entry 13): every entry ends that hazard, also the data abort of a User-bank LDM or
STM itself, of which R365 says nothing. -/
def State.takeException (s : State) (e : Exc) : State :=
  if e = .reset then s.takeReset
  else
    { s.setSpsr e.mode s.cpsr with
      cpsr := e.entryPsr s.cpsr
      regs := s.regs.set (bankR14 e.mode.bits) (e.returnAddress s.pc)
      pc := e.vector
      stale := []
      afterUserBank := false }

/-- Exception return: `CPSR <- SPSR` of the current mode and `pc <- target` in one step (R320, `41_data_processing.md`
R149). A mode without an SPSR, and a saved mode that is none of the seven, fault; a saved T = 1 leaves the spec. -/
def State.exceptionReturn (s : State) (target : Word) : Out :=
  match s.spsr with
  | none => .fault .noSpsr
  | some p =>
    if p.t then .refused .thumbState
    else if p.mode = none then .fault .invalidMode
    else ({ s with cpsr := p } : State).branchTo target

/-! ### Memory accesses (`20_memory.md` R61 to R74) -/

/-- The three widths (R61). -/
inductive Size where
  | byte | half | word
  deriving DecidableEq, Repr

/-- The width in bytes. -/
def Size.bytes : Size → Nat
  | .byte => 1
  | .half => 2
  | .word => 4

/-- An address that breaks the alignment rule of R65. -/
def Size.misaligned (z : Size) (a : Word) : Bool := a.toNat % z.bytes != 0

/-- The oracle ABORT (R73): some line of the platform's table matches the access. -/
def State.aborts (s : State) (a : Word) (size : Nat) (kind : AccessKind) (privileged : Bool) : Bool :=
  s.platform.aborts.any fun e =>
    decide (e.kind = kind) && decide (e.size = size) && decide (e.privileged = privileged) &&
      decide (e.first ≤ a.toNat) && decide (a.toNat ≤ e.last)

/-- The byte at an address. -/
def State.byteAt (s : State) (a : Word) : Option Byte := s.mem.read a.toNat

/-- The word at an address, in the platform's byte order (R63). -/
def State.wordAt (s : State) (a : Word) : Option Word :=
  match s.byteAt a, s.byteAt (a + 1), s.byteAt (a + 2), s.byteAt (a + 3) with
  | some b0, some b1, some b2, some b3 => some (wordOfBytes s.platform.bigEnd b0 b1 b2 b3)
  | _, _, _, _ => none

/-- The halfword at an address, in the platform's byte order (R63). -/
def State.halfAt (s : State) (a : Word) : Option (BitVec 16) :=
  match s.byteAt a, s.byteAt (a + 1) with
  | some b0, some b1 => some (if s.platform.bigEnd then b0 ++ b1 else b1 ++ b0)
  | _, _ => none

/-- The value of a width at an address, zero-extended; `none` where a byte has no value. -/
def State.valueAt (s : State) (z : Size) (a : Word) : Option Word :=
  match z with
  | .byte => (s.byteAt a).map (BitVec.setWidth 32)
  | .half => (s.halfAt a).map (BitVec.setWidth 32)
  | .word => s.wordAt a

/-- The bytes of a value of a width at rising addresses (R63). -/
def Size.split (z : Size) (bigEnd : Bool) (v : Word) : List Byte :=
  match z with
  | .byte => [v.extractLsb' 0 8]
  | .half => if bigEnd then [v.extractLsb' 8 8, v.extractLsb' 0 8] else [v.extractLsb' 0 8, v.extractLsb' 8 8]
  | .word => bytesOfWord bigEnd v

/-- The word that holds the byte at an address. -/
def wordBase (a : Word) : Word := a &&& 0xFFFFFFFC

/-- The record of a store to one of the two words that follow the storing instruction: they may have been fetched already
(R79, `70_reset_and_hazards.md` R362). -/
def State.missedBy (s : State) (a : Word) : List Stale :=
  if wordBase a = s.pc + 4 ∨ wordBase a = s.pc + 8 then [{ addr := wordBase a, old := s.wordAt (wordBase a) }] else []

/-- The state with a value of a width stored at an aligned address. -/
def State.store (s : State) (z : Size) (a : Word) (v : Word) : State :=
  { s with
    mem := s.mem.writeAll a (z.split s.platform.bigEnd v)
    stale := s.stale ++ s.missedBy a }

/-- What one access comes to: done, an abort, or a fault. -/
inductive Access (α : Type) where
  | ok (x : α)
  | abort
  | fault (f : Fault)
  deriving DecidableEq, Repr

/-- `MemRead` as data (R63): the alignment check, the abort oracle, then the bytes. -/
def State.memRead (s : State) (privileged : Bool) (z : Size) (a : Word) : Access Word :=
  if z.misaligned a then .fault (.misaligned a)
  else if s.aborts a z.bytes .read privileged then .abort
  else
    match s.valueAt z a with
    | some v => .ok v
    | none => .fault (.unwritten a)

/-- `MemWrite` (R63): the alignment check, the abort oracle, then the bytes. -/
def State.memWrite (s : State) (privileged : Bool) (z : Size) (a : Word) (v : Word) : Access State :=
  if z.misaligned a then .fault (.misaligned a)
  else if s.aborts a z.bytes .write privileged then .abort
  else .ok (s.store z a v)

/-! ### The frame of an instruction -/

/-- `ConditionPassed(cond)`: the "true when" column of `40_conditional_execution.md` R130, on the flags before the
instruction (R131). -/
def condPassed (c : Cond) (p : Psr) : Bool :=
  match c with
  | .eq => p.z
  | .ne => !p.z
  | .cs => p.c
  | .cc => !p.c
  | .mi => p.n
  | .pl => !p.n
  | .vs => p.v
  | .vc => !p.v
  | .hi => p.c && !p.z
  | .ls => !p.c || p.z
  | .ge => p.n == p.v
  | .lt => p.n != p.v
  | .gt => !p.z && p.n == p.v
  | .le => p.z || p.n != p.v
  | .al => true

/-- The instruction after a user-bank LDM or STM names a banked register (`70_reset_and_hazards.md` R365). -/
def State.hazard (s : State) (touched : List RegNum) : Bool := s.afterUserBank && touched.any (banked s.cpsr.m)

/-- A fault unless a restriction holds. -/
def faultUnless (ok : Bool) (f : Fault) : Option Fault := if ok then none else some f

/-- The frame of every instruction: with its condition false it only advances (R132); with it true, an operand combination
that is UNPREDICTABLE faults (`93_implementation_defined.md` section 2), and so does a banked register named right
after a user-bank transfer; otherwise `body`. `touched` are the registers the instruction names. -/
def guarded (c : Cond) (bad : Option Fault) (touched : List RegNum) (s : State) (body : Out) : Out :=
  if condPassed c s.cpsr then
    match bad with
    | some f => .fault f
    | none => if s.hazard touched then .fault .bankedAfterUserBank else body
  else s.advance

end Sys2Proof.Machine
end

