-- ==== Sys2Proof/Machine/Operands.lean ====
section
/-! DEFINITION. Every operand form: the barrel shifter (`41_data_processing.md` R141 to R145), the offsets and address
modes of single transfers (`43_load_store.md` R201, R202), and the address range of block transfers
(`44_load_store_multiple.md` R232). -/

namespace Sys2Proof.Machine

/-! ### The barrel shifter -/

/-- The 32-bit constant of a rotated immediate: imm8 rotated right by twice the rotate field (R111). -/
def rotatedImm (rotate : BitVec 4) (imm8 : BitVec 8) : Word := (imm8.setWidth 32).rotateRight (2 * rotate.toNat)

/-- Immediate operand (R142): the carry-out is C for rotate 0, else bit 31 of the value. -/
def immOperand (rotate : BitVec 4) (imm8 : BitVec 8) (c : Bool) : Operand :=
  let v := rotatedImm rotate imm8
  { value := v, carry := if rotate = 0 then c else v.msb }

/-- Register shifted by an immediate (the table of R143). An amount of 0 is LSL #0, LSR #32, ASR #32 and RRX. -/
def shiftByImm (k : ShiftKind) (m : Word) (amount : BitVec 5) (c : Bool) : Operand :=
  let n := amount.toNat
  match k with
  | .lsl => if n = 0 then { value := m, carry := c } else { value := m <<< n, carry := m.getLsbD (32 - n) }
  | .lsr =>
    if n = 0 then { value := 0, carry := m.msb } else { value := m >>> n, carry := m.getLsbD (n - 1) }
  | .asr =>
    if n = 0 then { value := m.sshiftRight 32, carry := m.msb }
    else { value := m.sshiftRight n, carry := m.getLsbD (n - 1) }
  | .ror =>
    if n = 0 then { value := BitVec.ofBool c ++ m.extractLsb' 1 31, carry := m.getLsbD 0 }
    else { value := m.rotateRight n, carry := m.getLsbD (n - 1) }

/-- Register shifted by a register (the table of R144): the amount is the bottom byte of Rs, 0 to 255. -/
def shiftByReg (k : ShiftKind) (m : Word) (amount : BitVec 8) (c : Bool) : Operand :=
  let n := amount.toNat
  if n = 0 then { value := m, carry := c }
  else
    match k with
    | .lsl =>
      if n < 32 then { value := m <<< n, carry := m.getLsbD (32 - n) }
      else if n = 32 then { value := 0, carry := m.getLsbD 0 }
      else { value := 0, carry := false }
    | .lsr =>
      if n < 32 then { value := m >>> n, carry := m.getLsbD (n - 1) }
      else if n = 32 then { value := 0, carry := m.msb }
      else { value := 0, carry := false }
    | .asr =>
      if n < 32 then { value := m.sshiftRight n, carry := m.getLsbD (n - 1) }
      else { value := m.sshiftRight 32, carry := m.msb }
    | .ror =>
      if n % 32 = 0 then { value := m, carry := m.msb }
      else { value := m.rotateRight (n % 32), carry := m.getLsbD (n % 32 - 1) }

/-- The operand `#constant` of an instruction. -/
def State.immOp (s : State) (rotate : BitVec 4) (imm8 : BitVec 8) : Operand := immOperand rotate imm8 s.cpsr.c

/-- The operand `Rm, <shift> #n`; R15 reads as pc + 8 (R146). -/
def State.shiOp (s : State) (amount : BitVec 5) (k : ShiftKind) (rm : RegNum) : Operand :=
  shiftByImm k (s.readReg rm) amount s.cpsr.c

/-- The operand `Rm, <shift> Rs`. -/
def State.shrOp (s : State) (rs : RegNum) (k : ShiftKind) (rm : RegNum) : Operand :=
  shiftByReg k (s.readReg rm) ((s.readReg rs).extractLsb' 0 8) s.cpsr.c

/-! ### Address modes of single transfers (R202) -/

/-- The address of a single transfer and the write-back value of its base. -/
structure Addressing where
  address : Word
  writeBack : Option Word
  deriving DecidableEq, Repr

/-- `base + signed_off`: the offset is added for U = 1 and subtracted for U = 0 (R201). -/
def signedOffset (base off : Word) (u : Bool) : Word := if u then base + off else base - off

/-- Pre-indexed, and with W auto-indexing (R202). -/
def preIndexed (base off : Word) (u w : Bool) : Addressing :=
  { address := signedOffset base off u, writeBack := if w then some (signedOffset base off u) else none }

/-- Post-indexed: the base is always written back (R202). -/
def postIndexed (base off : Word) (u : Bool) : Addressing :=
  { address := base, writeBack := some (signedOffset base off u) }

/-- The two modes by P (R96). -/
def indexed (p : Bool) (base off : Word) (u w : Bool) : Addressing :=
  if p then preIndexed base off u w else postIndexed base off u

/-- The register offset of format SDT: the value of R143, its carry discarded (R201). -/
def State.shiftedOffset (s : State) (amount : BitVec 5) (k : ShiftKind) (rm : RegNum) : Word :=
  (s.shiOp amount k rm).value

/-! ### Block transfers (`44_load_store_multiple.md`) -/

/-- The four address modes (R231). -/
inductive BlockMode where
  | ia | ib | da | db
  deriving DecidableEq, Repr

/-- The registers of a list, the lowest number first (R115, R232). -/
def regList (list : BitVec 16) : List RegNum :=
  ((List.range 16).filter fun i => list.getLsbD i).map (BitVec.ofNat 4)

/-- Four times the number of registers of a list (R232). -/
def blockBytes (list : BitVec 16) : Word := BitVec.ofNat 32 (4 * (regList list).length)

/-- The lowest address of a block transfer (R232). -/
def BlockMode.start (k : BlockMode) (base : Word) (list : BitVec 16) : Word :=
  match k with
  | .ia => base
  | .ib => base + 4
  | .da => base - blockBytes list + 4
  | .db => base - blockBytes list

/-- The write-back value of a block transfer (R232). -/
def BlockMode.final (k : BlockMode) (base : Word) (list : BitVec 16) : Word :=
  match k with
  | .ia => base + blockBytes list
  | .ib => base + blockBytes list
  | .da => base - blockBytes list
  | .db => base - blockBytes list

end Sys2Proof.Machine
end

