-- ==== Sys2Proof/Machine/Restrict.lean ====
section
/-! DEFINITION. The operand combinations the spec makes UNPREDICTABLE (`93_implementation_defined.md` section 2), as
checks on the fields of an instruction: each is true where the combination is allowed. -/

namespace Sys2Proof.Machine

/-- U5: the register-shift form has no R15 operand (`41_data_processing.md` R147). -/
def noR15 (rs : List RegNum) : Bool := rs.all fun r => decide (r ≠ 15)

/-- U7: MUL and MLA, with the registers the instruction reads and writes (`42_multiply.md` R193). -/
def mulOk (rd rm : RegNum) (operands : List RegNum) : Bool := decide (rd ≠ rm) && noR15 operands

/-- U8: the long multiplies (`42_multiply.md` R199). -/
def mulLongOk (rdHi rdLo rs rm : RegNum) : Bool :=
  decide (rdHi ≠ rdLo) && decide (rdHi ≠ rm) && decide (rdLo ≠ rm) && noR15 [rdHi, rdLo, rs, rm]

/-- U9: a form with write-back has Rn neither Rd nor R15 (`43_load_store.md` R205). -/
def baseOk (writeBack : Bool) (rn rd : RegNum) : Bool := !writeBack || (decide (rn ≠ rd) && decide (rn ≠ 15))

/-- U9: a register offset is not R15, and in a form with write-back not the base (`43_load_store.md` R205). -/
def offsetRegOk (writeBack : Bool) (rn rm : RegNum) : Bool := decide (rm ≠ 15) && (!writeBack || decide (rm ≠ rn))

/-- U10: R15 as Rd, which only LDR admits (`43_load_store.md` R206, R214, R217). -/
def dataRegOk (rd : RegNum) : Bool := decide (rd ≠ 15)

/-- U11: format HW with P = 0 has W = 0 (`43_load_store.md` R217). -/
def halfModeOk (p w : Bool) : Bool := p || !w

/-- The number of a list's lowest register is `i` (R237). -/
def lowestInList (list : BitVec 16) (i : RegNum) : Bool :=
  list.getLsbD i.toNat && (List.range i.toNat).all fun k => !list.getLsbD k

/-- U12 for LDM: the base is not R15, the list is not empty, and with write-back the base is not in the list
(`44_load_store_multiple.md` R236, R237). -/
def ldmOk (w : Bool) (rn : RegNum) (list : BitVec 16) : Bool :=
  decide (rn ≠ 15) && decide (list ≠ 0) && !(w && list.getLsbD rn.toNat)

/-- U12 for STM: the base is not R15, R15 is not stored, the list is not empty, and with write-back a base in the list is
its lowest register (`44_load_store_multiple.md` R236, R237). -/
def stmOk (w : Bool) (rn : RegNum) (list : BitVec 16) : Bool :=
  decide (rn ≠ 15) && !list.getLsbD 15 && decide (list ≠ 0) &&
    (!(w && list.getLsbD rn.toNat) || lowestInList list rn)

/-- U13: the user-bank form, `^` without R15 in the list, has no write-back (`44_load_store_multiple.md` R238, R239). -/
def userFormOk (s w : Bool) (list : BitVec 16) : Bool := !(s && !list.getLsbD 15 && w)

/-- U14: SWP and SWPB (`45_swap.md` R253). -/
def swapOk (rn rd rm : RegNum) : Bool := decide (rn ≠ rd) && decide (rn ≠ rm) && noR15 [rn, rd, rm]

end Sys2Proof.Machine
end

