-- ==== Sys2Proof/Machine/Block.lean ====
section
/-! DEFINITION. Multiple-register loads and stores (`44_load_store_multiple.md`). -/

namespace Sys2Proof.Machine

/-- What the reads of an LDM come to: each listed register with its word, or, at an access that aborts, those read before
it. -/
inductive Loads where
  | ok (vals : List (RegNum × Word))
  | abort (vals : List (RegNum × Word))
  | fault (f : Fault)
  deriving DecidableEq, Repr

/-- The word accesses of an LDM in ascending address order (R232, R234). -/
def State.readMany (s : State) (privileged : Bool) : Word → List RegNum → Loads
  | _, [] => .ok []
  | a, r :: rs =>
    match s.memRead privileged .word a with
    | .fault f => .fault f
    | .abort => .abort []
    | .ok v =>
      match s.readMany privileged (a + 4) rs with
      | .ok vals => .ok ((r, v) :: vals)
      | .abort vals => .abort ((r, v) :: vals)
      | .fault f => .fault f

/-- What the writes of an STM come to: the state after all of them, or, at an access that aborts, after those before it. -/
inductive Stores where
  | ok (s : State)
  | abort (s : State)
  | fault (f : Fault)
  deriving DecidableEq, Repr

/-- The word accesses of an STM in ascending address order (R232, R235). -/
def State.writeMany (s : State) (privileged : Bool) : Word → List Word → Stores
  | _, [] => .ok s
  | a, v :: vs =>
    match s.memWrite privileged .word a v with
    | .fault f => .fault f
    | .abort => .abort s
    | .ok s' => s'.writeMany privileged (a + 4) vs

/-- The registers of an LDM written in order, R15 left out: the PC is written last (R234). -/
def State.writeRegs (s : State) (user : Bool) : List (RegNum × Word) → State
  | [] => s
  | (r, v) :: rest =>
    if r = 15 then s.writeRegs user rest
    else (if user then s.writeUser r v else s.writeReg r v).writeRegs user rest

/-- The word an LDM read for R15. -/
def pcWord : List (RegNum × Word) → Option Word
  | [] => none
  | (r, v) :: rest => if r = 15 then some v else pcWord rest

/-- The registers that an aborted LDM had read: each holds its old or its loaded value, a free choice (`20_memory.md` R74,
`93_implementation_defined.md` V5). -/
def State.writeDrawn (s : State) (user : Bool) (k : Nat) : List (RegNum × Word) → State
  | [] => s
  | (r, v) :: rest =>
    (if Config.freeBit k then (if user then s.writeUser r v else s.writeReg r v) else s).writeDrawn user (k + 1) rest

/-- A data abort of an LDM (R249, `20_memory.md` R74): registers read before it may be overwritten; the base keeps its value
under `restored` and is written back under `updated`; the exception is taken. DESIGN CHOICE, unsafe (log entry 13): a
User-bank form that aborts leaves no hazard of R365 to the handler. -/
def State.abortLoads (s : State) (user : Bool) (rn : RegNum) (writeBack : Option Word) (vals : List (RegNum × Word)) :
    Out :=
  let drawn := { s.writeDrawn user s.draws vals with draws := s.draws + vals.length }
  .next ((if s.platform.baseUpdated then drawn.writeBase rn writeBack
    else drawn.writeReg rn (s.readReg rn)).takeException .dataAbort)

/-- A data abort of an STM: the words before it are stored, the base follows ABORT_BASE_MODEL, and the exception is taken
(R249, `20_memory.md` R74). DESIGN CHOICE, unsafe (log entry 13): as with LDM, a User-bank form that aborts leaves no hazard. -/
def State.abortStores (s : State) (rn : RegNum) (writeBack : Option Word) : Out :=
  .next ((if s.platform.baseUpdated then s.writeBase rn writeBack else s).takeException .dataAbort)

/-- The next instruction must not name a banked register (`70_reset_and_hazards.md` R365). -/
def State.advanceUserBank (s : State) : Out :=
  match s.advance with
  | .next t => .next { t with afterUserBank := true }
  | o => o

/-- The end of an LDM whose words are all read (R234, R238): the registers, the base, then the PC; with `^` and R15 an
exception return, with `^` and no R15 the User bank. -/
def State.finishLoads (s : State) (caret : Bool) (rn : RegNum) (writeBack : Option Word) (vals : List (RegNum × Word)) :
    Out :=
  match pcWord vals with
  | some v =>
    let t := (s.writeRegs false vals).writeBase rn writeBack
    if caret then t.exceptionReturn v else t.branchTo v
  | none =>
    let t := (s.writeRegs caret vals).writeBase rn writeBack
    if caret then t.advanceUserBank else t.advance

/-- The forms of LDM with `^` that have no meaning in the current mode: any in usr mode, and with R15 in the list any in a
mode without an SPSR (R238). -/
def State.caretLoadFault (s : State) (list : BitVec 16) : Option Fault :=
  if s.privileged = false then some .userBankForm
  else if list.getLsbD 15 && s.spsr.isNone then some .noSpsr
  else none

/-- LDM (R232, R234, R238, R249). -/
def State.loadMultiple (s : State) (k : BlockMode) (caret w : Bool) (rn : RegNum) (list : BitVec 16) : Out :=
  let base := s.readReg rn
  let writeBack := if w then some (k.final base list) else none
  match if caret then s.caretLoadFault list else none with
  | some f => .fault f
  | none =>
    match s.readMany s.privileged (k.start base list) (regList list) with
    | .fault f => .fault f
    | .abort vals => s.abortLoads (caret && !list.getLsbD 15) rn writeBack vals
    | .ok vals => s.finishLoads caret rn writeBack vals

/-- STM (R232, R235, R239, R249): the values are those before the instruction. -/
def State.storeMultiple (s : State) (k : BlockMode) (caret w : Bool) (rn : RegNum) (list : BitVec 16) : Out :=
  let base := s.readReg rn
  let writeBack := if w then some (k.final base list) else none
  if caret && !s.privileged then .fault .userBankForm
  else
    match s.writeMany s.privileged (k.start base list)
        ((regList list).map fun r => if caret then s.readUser r else s.readReg r) with
    | .fault f => .fault f
    | .abort s' => s'.abortStores rn writeBack
    | .ok s' =>
      if caret then (s'.writeBase rn writeBack).advanceUserBank else (s'.writeBase rn writeBack).advance

/-- The restrictions on LDM (R236 to R238). -/
def ldmForm (caret w : Bool) (rn : RegNum) (list : BitVec 16) : Option Fault :=
  if ldmOk w rn list then faultUnless (userFormOk caret w list) .userBankForm else some .blockOperands

/-- The restrictions on STM (R236, R237, R239). -/
def stmForm (caret w : Bool) (rn : RegNum) (list : BitVec 16) : Option Fault :=
  if stmOk w rn list then faultUnless (userFormOk caret w list) .userBankForm else some .blockOperands

/-- The registers of the current bank that a block transfer names: the base, and the list unless it is the User bank's. -/
def blockRegs (caret : Bool) (rn : RegNum) (list : BitVec 16) : List RegNum :=
  if caret && !list.getLsbD 15 then [rn] else rn :: regList list

/-- LDMIA (R240). -/
def execLdmia (c : Cond) (caret w : Bool) (rn : RegNum) (list : BitVec 16) (s : State) : Out :=
  guarded c (ldmForm caret w rn list) (blockRegs caret rn list) s (s.loadMultiple .ia caret w rn list)

/-- LDMIB (R241). -/
def execLdmib (c : Cond) (caret w : Bool) (rn : RegNum) (list : BitVec 16) (s : State) : Out :=
  guarded c (ldmForm caret w rn list) (blockRegs caret rn list) s (s.loadMultiple .ib caret w rn list)

/-- LDMDA (R242). -/
def execLdmda (c : Cond) (caret w : Bool) (rn : RegNum) (list : BitVec 16) (s : State) : Out :=
  guarded c (ldmForm caret w rn list) (blockRegs caret rn list) s (s.loadMultiple .da caret w rn list)

/-- LDMDB (R243). -/
def execLdmdb (c : Cond) (caret w : Bool) (rn : RegNum) (list : BitVec 16) (s : State) : Out :=
  guarded c (ldmForm caret w rn list) (blockRegs caret rn list) s (s.loadMultiple .db caret w rn list)

/-- STMIA (R244). -/
def execStmia (c : Cond) (caret w : Bool) (rn : RegNum) (list : BitVec 16) (s : State) : Out :=
  guarded c (stmForm caret w rn list) (blockRegs caret rn list) s (s.storeMultiple .ia caret w rn list)

/-- STMIB (R245). -/
def execStmib (c : Cond) (caret w : Bool) (rn : RegNum) (list : BitVec 16) (s : State) : Out :=
  guarded c (stmForm caret w rn list) (blockRegs caret rn list) s (s.storeMultiple .ib caret w rn list)

/-- STMDA (R246). -/
def execStmda (c : Cond) (caret w : Bool) (rn : RegNum) (list : BitVec 16) (s : State) : Out :=
  guarded c (stmForm caret w rn list) (blockRegs caret rn list) s (s.storeMultiple .da caret w rn list)

/-- STMDB (R247). -/
def execStmdb (c : Cond) (caret w : Bool) (rn : RegNum) (list : BitVec 16) (s : State) : Out :=
  guarded c (stmForm caret w rn list) (blockRegs caret rn list) s (s.storeMultiple .db caret w rn list)

end Sys2Proof.Machine
end

