-- ==== Sys2Proof/Machine/Branch.lean ====
section
/-! DEFINITION. The branch instructions (`47_branch.md`). -/

namespace Sys2Proof.Machine

/-- The target of B and BL: `pc + 8 + (sext(imm24) << 2)` modulo 2^32 (R261, R263). -/
def branchTarget (pc : Word) (imm24 : BitVec 24) : Word := pc + 8 + (imm24.signExtend 32 <<< 2)

/-- B (R261). -/
def execB (c : Cond) (imm24 : BitVec 24) (s : State) : Out :=
  guarded c none [] s (s.branchTo (branchTarget s.pc imm24))

/-- BL: R14 of the current mode receives the address of the next instruction (R262, R265). -/
def execBl (c : Cond) (imm24 : BitVec 24) (s : State) : Out :=
  guarded c none [14] s ((s.writeReg 14 (s.pc + 4)).branchTo (branchTarget s.pc imm24))

/-- BX (R264): bit 0 of the register is the new T. To an ARM address, whose bit 1 must be clear, it branches; bit 0 set would
enter Thumb state, which is outside the spec (D11). -/
def execBx (c : Cond) (rm : RegNum) (s : State) : Out :=
  guarded c (faultUnless (noR15 [rm]) .branchExchange) [rm] s
    (if (s.readReg rm).getLsbD 0 then .refused .thumbState
    else if (s.readReg rm).getLsbD 1 then .fault .branchExchange
    else ({ s with cpsr := { s.cpsr with t := false } } : State).branchTo (s.readReg rm))

end Sys2Proof.Machine
end

