-- ==== Sys2Proof/Machine/DataProcessing.lean ====
section
/-! DEFINITION. The 16 data-processing instructions in their three operand forms (`41_data_processing.md`). -/

namespace Sys2Proof.Machine

/-- The end of an instruction that writes a result (R148, R149): to Rd, with S the flags; for Rd = 15 a branch, with S an
exception return. -/
def State.finishResult (s : State) (flags : Bool) (rd : RegNum) (r : Alu) : Out :=
  if rd = 15 then
    if flags then s.exceptionReturn r.result else s.branchTo r.result
  else (({ s with cpsr := if flags then s.cpsr.withAlu r else s.cpsr } : State).writeReg rd r.result).advance

/-- The end of a comparison: the flags only (R148, R166 to R169). -/
def State.finishCompare (s : State) (r : Alu) : Out :=
  ({ s with cpsr := s.cpsr.withAlu r } : State).advance

/-- The restriction of the register-shift form (R147), on the registers the instruction reads and writes. -/
def shiftRegs (rs : List RegNum) : Option Fault := faultUnless (noR15 rs) .registerShiftR15

/-- AND, immediate operand (R170). -/
def execAndImm (c : Cond) (flags : Bool) (rn rd : RegNum) (rotate : BitVec 4) (imm8 : BitVec 8) (s : State) : Out :=
  guarded c none [rd, rn] s (s.finishResult flags rd (aluAnd (s.readReg rn) (s.immOp rotate imm8) s.cpsr))

/-- AND, register shifted by an immediate (R170). -/
def execAndShi (c : Cond) (flags : Bool) (rn rd : RegNum) (amount : BitVec 5) (k : ShiftKind) (rm : RegNum) (s : State) : Out :=
  guarded c none [rd, rn, rm] s (s.finishResult flags rd (aluAnd (s.readReg rn) (s.shiOp amount k rm) s.cpsr))

/-- AND, register shifted by a register (R170). -/
def execAndShr (c : Cond) (flags : Bool) (rn rd : RegNum) (rs : RegNum) (k : ShiftKind) (rm : RegNum) (s : State) : Out :=
  guarded c (shiftRegs [rd, rn, rm, rs]) [rd, rn, rm, rs] s (s.finishResult flags rd (aluAnd (s.readReg rn) (s.shrOp rs k rm) s.cpsr))

/-- EOR, immediate operand (R171). -/
def execEorImm (c : Cond) (flags : Bool) (rn rd : RegNum) (rotate : BitVec 4) (imm8 : BitVec 8) (s : State) : Out :=
  guarded c none [rd, rn] s (s.finishResult flags rd (aluEor (s.readReg rn) (s.immOp rotate imm8) s.cpsr))

/-- EOR, register shifted by an immediate (R171). -/
def execEorShi (c : Cond) (flags : Bool) (rn rd : RegNum) (amount : BitVec 5) (k : ShiftKind) (rm : RegNum) (s : State) : Out :=
  guarded c none [rd, rn, rm] s (s.finishResult flags rd (aluEor (s.readReg rn) (s.shiOp amount k rm) s.cpsr))

/-- EOR, register shifted by a register (R171). -/
def execEorShr (c : Cond) (flags : Bool) (rn rd : RegNum) (rs : RegNum) (k : ShiftKind) (rm : RegNum) (s : State) : Out :=
  guarded c (shiftRegs [rd, rn, rm, rs]) [rd, rn, rm, rs] s (s.finishResult flags rd (aluEor (s.readReg rn) (s.shrOp rs k rm) s.cpsr))

/-- SUB, immediate operand (R162). -/
def execSubImm (c : Cond) (flags : Bool) (rn rd : RegNum) (rotate : BitVec 4) (imm8 : BitVec 8) (s : State) : Out :=
  guarded c none [rd, rn] s (s.finishResult flags rd (aluSub (s.readReg rn) (s.immOp rotate imm8) s.cpsr))

/-- SUB, register shifted by an immediate (R162). -/
def execSubShi (c : Cond) (flags : Bool) (rn rd : RegNum) (amount : BitVec 5) (k : ShiftKind) (rm : RegNum) (s : State) : Out :=
  guarded c none [rd, rn, rm] s (s.finishResult flags rd (aluSub (s.readReg rn) (s.shiOp amount k rm) s.cpsr))

/-- SUB, register shifted by a register (R162). -/
def execSubShr (c : Cond) (flags : Bool) (rn rd : RegNum) (rs : RegNum) (k : ShiftKind) (rm : RegNum) (s : State) : Out :=
  guarded c (shiftRegs [rd, rn, rm, rs]) [rd, rn, rm, rs] s (s.finishResult flags rd (aluSub (s.readReg rn) (s.shrOp rs k rm) s.cpsr))

/-- RSB, immediate operand (R164). -/
def execRsbImm (c : Cond) (flags : Bool) (rn rd : RegNum) (rotate : BitVec 4) (imm8 : BitVec 8) (s : State) : Out :=
  guarded c none [rd, rn] s (s.finishResult flags rd (aluRsb (s.readReg rn) (s.immOp rotate imm8) s.cpsr))

/-- RSB, register shifted by an immediate (R164). -/
def execRsbShi (c : Cond) (flags : Bool) (rn rd : RegNum) (amount : BitVec 5) (k : ShiftKind) (rm : RegNum) (s : State) : Out :=
  guarded c none [rd, rn, rm] s (s.finishResult flags rd (aluRsb (s.readReg rn) (s.shiOp amount k rm) s.cpsr))

/-- RSB, register shifted by a register (R164). -/
def execRsbShr (c : Cond) (flags : Bool) (rn rd : RegNum) (rs : RegNum) (k : ShiftKind) (rm : RegNum) (s : State) : Out :=
  guarded c (shiftRegs [rd, rn, rm, rs]) [rd, rn, rm, rs] s (s.finishResult flags rd (aluRsb (s.readReg rn) (s.shrOp rs k rm) s.cpsr))

/-- ADD, immediate operand (R160). -/
def execAddImm (c : Cond) (flags : Bool) (rn rd : RegNum) (rotate : BitVec 4) (imm8 : BitVec 8) (s : State) : Out :=
  guarded c none [rd, rn] s (s.finishResult flags rd (aluAdd (s.readReg rn) (s.immOp rotate imm8) s.cpsr))

/-- ADD, register shifted by an immediate (R160). -/
def execAddShi (c : Cond) (flags : Bool) (rn rd : RegNum) (amount : BitVec 5) (k : ShiftKind) (rm : RegNum) (s : State) : Out :=
  guarded c none [rd, rn, rm] s (s.finishResult flags rd (aluAdd (s.readReg rn) (s.shiOp amount k rm) s.cpsr))

/-- ADD, register shifted by a register (R160). -/
def execAddShr (c : Cond) (flags : Bool) (rn rd : RegNum) (rs : RegNum) (k : ShiftKind) (rm : RegNum) (s : State) : Out :=
  guarded c (shiftRegs [rd, rn, rm, rs]) [rd, rn, rm, rs] s (s.finishResult flags rd (aluAdd (s.readReg rn) (s.shrOp rs k rm) s.cpsr))

/-- ADC, immediate operand (R161). -/
def execAdcImm (c : Cond) (flags : Bool) (rn rd : RegNum) (rotate : BitVec 4) (imm8 : BitVec 8) (s : State) : Out :=
  guarded c none [rd, rn] s (s.finishResult flags rd (aluAdc (s.readReg rn) (s.immOp rotate imm8) s.cpsr))

/-- ADC, register shifted by an immediate (R161). -/
def execAdcShi (c : Cond) (flags : Bool) (rn rd : RegNum) (amount : BitVec 5) (k : ShiftKind) (rm : RegNum) (s : State) : Out :=
  guarded c none [rd, rn, rm] s (s.finishResult flags rd (aluAdc (s.readReg rn) (s.shiOp amount k rm) s.cpsr))

/-- ADC, register shifted by a register (R161). -/
def execAdcShr (c : Cond) (flags : Bool) (rn rd : RegNum) (rs : RegNum) (k : ShiftKind) (rm : RegNum) (s : State) : Out :=
  guarded c (shiftRegs [rd, rn, rm, rs]) [rd, rn, rm, rs] s (s.finishResult flags rd (aluAdc (s.readReg rn) (s.shrOp rs k rm) s.cpsr))

/-- SBC, immediate operand (R163). -/
def execSbcImm (c : Cond) (flags : Bool) (rn rd : RegNum) (rotate : BitVec 4) (imm8 : BitVec 8) (s : State) : Out :=
  guarded c none [rd, rn] s (s.finishResult flags rd (aluSbc (s.readReg rn) (s.immOp rotate imm8) s.cpsr))

/-- SBC, register shifted by an immediate (R163). -/
def execSbcShi (c : Cond) (flags : Bool) (rn rd : RegNum) (amount : BitVec 5) (k : ShiftKind) (rm : RegNum) (s : State) : Out :=
  guarded c none [rd, rn, rm] s (s.finishResult flags rd (aluSbc (s.readReg rn) (s.shiOp amount k rm) s.cpsr))

/-- SBC, register shifted by a register (R163). -/
def execSbcShr (c : Cond) (flags : Bool) (rn rd : RegNum) (rs : RegNum) (k : ShiftKind) (rm : RegNum) (s : State) : Out :=
  guarded c (shiftRegs [rd, rn, rm, rs]) [rd, rn, rm, rs] s (s.finishResult flags rd (aluSbc (s.readReg rn) (s.shrOp rs k rm) s.cpsr))

/-- RSC, immediate operand (R165). -/
def execRscImm (c : Cond) (flags : Bool) (rn rd : RegNum) (rotate : BitVec 4) (imm8 : BitVec 8) (s : State) : Out :=
  guarded c none [rd, rn] s (s.finishResult flags rd (aluRsc (s.readReg rn) (s.immOp rotate imm8) s.cpsr))

/-- RSC, register shifted by an immediate (R165). -/
def execRscShi (c : Cond) (flags : Bool) (rn rd : RegNum) (amount : BitVec 5) (k : ShiftKind) (rm : RegNum) (s : State) : Out :=
  guarded c none [rd, rn, rm] s (s.finishResult flags rd (aluRsc (s.readReg rn) (s.shiOp amount k rm) s.cpsr))

/-- RSC, register shifted by a register (R165). -/
def execRscShr (c : Cond) (flags : Bool) (rn rd : RegNum) (rs : RegNum) (k : ShiftKind) (rm : RegNum) (s : State) : Out :=
  guarded c (shiftRegs [rd, rn, rm, rs]) [rd, rn, rm, rs] s (s.finishResult flags rd (aluRsc (s.readReg rn) (s.shrOp rs k rm) s.cpsr))

/-- TST, immediate operand (R168). -/
def execTstImm (c : Cond) (rn _ : RegNum) (rotate : BitVec 4) (imm8 : BitVec 8) (s : State) : Out :=
  guarded c none [rn] s (s.finishCompare (aluAnd (s.readReg rn) (s.immOp rotate imm8) s.cpsr))

/-- TST, register shifted by an immediate (R168). -/
def execTstShi (c : Cond) (rn _ : RegNum) (amount : BitVec 5) (k : ShiftKind) (rm : RegNum) (s : State) : Out :=
  guarded c none [rn, rm] s (s.finishCompare (aluAnd (s.readReg rn) (s.shiOp amount k rm) s.cpsr))

/-- TST, register shifted by a register (R168). -/
def execTstShr (c : Cond) (rn _ : RegNum) (rs : RegNum) (k : ShiftKind) (rm : RegNum) (s : State) : Out :=
  guarded c (shiftRegs [rn, rm, rs]) [rn, rm, rs] s (s.finishCompare (aluAnd (s.readReg rn) (s.shrOp rs k rm) s.cpsr))

/-- TEQ, immediate operand (R169). -/
def execTeqImm (c : Cond) (rn _ : RegNum) (rotate : BitVec 4) (imm8 : BitVec 8) (s : State) : Out :=
  guarded c none [rn] s (s.finishCompare (aluEor (s.readReg rn) (s.immOp rotate imm8) s.cpsr))

/-- TEQ, register shifted by an immediate (R169). -/
def execTeqShi (c : Cond) (rn _ : RegNum) (amount : BitVec 5) (k : ShiftKind) (rm : RegNum) (s : State) : Out :=
  guarded c none [rn, rm] s (s.finishCompare (aluEor (s.readReg rn) (s.shiOp amount k rm) s.cpsr))

/-- TEQ, register shifted by a register (R169). -/
def execTeqShr (c : Cond) (rn _ : RegNum) (rs : RegNum) (k : ShiftKind) (rm : RegNum) (s : State) : Out :=
  guarded c (shiftRegs [rn, rm, rs]) [rn, rm, rs] s (s.finishCompare (aluEor (s.readReg rn) (s.shrOp rs k rm) s.cpsr))

/-- CMP, immediate operand (R166). -/
def execCmpImm (c : Cond) (rn _ : RegNum) (rotate : BitVec 4) (imm8 : BitVec 8) (s : State) : Out :=
  guarded c none [rn] s (s.finishCompare (aluSub (s.readReg rn) (s.immOp rotate imm8) s.cpsr))

/-- CMP, register shifted by an immediate (R166). -/
def execCmpShi (c : Cond) (rn _ : RegNum) (amount : BitVec 5) (k : ShiftKind) (rm : RegNum) (s : State) : Out :=
  guarded c none [rn, rm] s (s.finishCompare (aluSub (s.readReg rn) (s.shiOp amount k rm) s.cpsr))

/-- CMP, register shifted by a register (R166). -/
def execCmpShr (c : Cond) (rn _ : RegNum) (rs : RegNum) (k : ShiftKind) (rm : RegNum) (s : State) : Out :=
  guarded c (shiftRegs [rn, rm, rs]) [rn, rm, rs] s (s.finishCompare (aluSub (s.readReg rn) (s.shrOp rs k rm) s.cpsr))

/-- CMN, immediate operand (R167). -/
def execCmnImm (c : Cond) (rn _ : RegNum) (rotate : BitVec 4) (imm8 : BitVec 8) (s : State) : Out :=
  guarded c none [rn] s (s.finishCompare (aluAdd (s.readReg rn) (s.immOp rotate imm8) s.cpsr))

/-- CMN, register shifted by an immediate (R167). -/
def execCmnShi (c : Cond) (rn _ : RegNum) (amount : BitVec 5) (k : ShiftKind) (rm : RegNum) (s : State) : Out :=
  guarded c none [rn, rm] s (s.finishCompare (aluAdd (s.readReg rn) (s.shiOp amount k rm) s.cpsr))

/-- CMN, register shifted by a register (R167). -/
def execCmnShr (c : Cond) (rn _ : RegNum) (rs : RegNum) (k : ShiftKind) (rm : RegNum) (s : State) : Out :=
  guarded c (shiftRegs [rn, rm, rs]) [rn, rm, rs] s (s.finishCompare (aluAdd (s.readReg rn) (s.shrOp rs k rm) s.cpsr))

/-- ORR, immediate operand (R172). -/
def execOrrImm (c : Cond) (flags : Bool) (rn rd : RegNum) (rotate : BitVec 4) (imm8 : BitVec 8) (s : State) : Out :=
  guarded c none [rd, rn] s (s.finishResult flags rd (aluOrr (s.readReg rn) (s.immOp rotate imm8) s.cpsr))

/-- ORR, register shifted by an immediate (R172). -/
def execOrrShi (c : Cond) (flags : Bool) (rn rd : RegNum) (amount : BitVec 5) (k : ShiftKind) (rm : RegNum) (s : State) : Out :=
  guarded c none [rd, rn, rm] s (s.finishResult flags rd (aluOrr (s.readReg rn) (s.shiOp amount k rm) s.cpsr))

/-- ORR, register shifted by a register (R172). -/
def execOrrShr (c : Cond) (flags : Bool) (rn rd : RegNum) (rs : RegNum) (k : ShiftKind) (rm : RegNum) (s : State) : Out :=
  guarded c (shiftRegs [rd, rn, rm, rs]) [rd, rn, rm, rs] s (s.finishResult flags rd (aluOrr (s.readReg rn) (s.shrOp rs k rm) s.cpsr))

/-- MOV, immediate operand (R174). -/
def execMovImm (c : Cond) (flags : Bool) (_ rd : RegNum) (rotate : BitVec 4) (imm8 : BitVec 8) (s : State) : Out :=
  guarded c none [rd] s (s.finishResult flags rd (aluMov (s.immOp rotate imm8) s.cpsr))

/-- MOV, register shifted by an immediate (R174). -/
def execMovShi (c : Cond) (flags : Bool) (_ rd : RegNum) (amount : BitVec 5) (k : ShiftKind) (rm : RegNum) (s : State) : Out :=
  guarded c none [rd, rm] s (s.finishResult flags rd (aluMov (s.shiOp amount k rm) s.cpsr))

/-- MOV, register shifted by a register (R174). -/
def execMovShr (c : Cond) (flags : Bool) (_ rd : RegNum) (rs : RegNum) (k : ShiftKind) (rm : RegNum) (s : State) : Out :=
  guarded c (shiftRegs [rd, rm, rs]) [rd, rm, rs] s (s.finishResult flags rd (aluMov (s.shrOp rs k rm) s.cpsr))

/-- BIC, immediate operand (R173). -/
def execBicImm (c : Cond) (flags : Bool) (rn rd : RegNum) (rotate : BitVec 4) (imm8 : BitVec 8) (s : State) : Out :=
  guarded c none [rd, rn] s (s.finishResult flags rd (aluBic (s.readReg rn) (s.immOp rotate imm8) s.cpsr))

/-- BIC, register shifted by an immediate (R173). -/
def execBicShi (c : Cond) (flags : Bool) (rn rd : RegNum) (amount : BitVec 5) (k : ShiftKind) (rm : RegNum) (s : State) : Out :=
  guarded c none [rd, rn, rm] s (s.finishResult flags rd (aluBic (s.readReg rn) (s.shiOp amount k rm) s.cpsr))

/-- BIC, register shifted by a register (R173). -/
def execBicShr (c : Cond) (flags : Bool) (rn rd : RegNum) (rs : RegNum) (k : ShiftKind) (rm : RegNum) (s : State) : Out :=
  guarded c (shiftRegs [rd, rn, rm, rs]) [rd, rn, rm, rs] s (s.finishResult flags rd (aluBic (s.readReg rn) (s.shrOp rs k rm) s.cpsr))

/-- MVN, immediate operand (R175). -/
def execMvnImm (c : Cond) (flags : Bool) (_ rd : RegNum) (rotate : BitVec 4) (imm8 : BitVec 8) (s : State) : Out :=
  guarded c none [rd] s (s.finishResult flags rd (aluMvn (s.immOp rotate imm8) s.cpsr))

/-- MVN, register shifted by an immediate (R175). -/
def execMvnShi (c : Cond) (flags : Bool) (_ rd : RegNum) (amount : BitVec 5) (k : ShiftKind) (rm : RegNum) (s : State) : Out :=
  guarded c none [rd, rm] s (s.finishResult flags rd (aluMvn (s.shiOp amount k rm) s.cpsr))

/-- MVN, register shifted by a register (R175). -/
def execMvnShr (c : Cond) (flags : Bool) (_ rd : RegNum) (rs : RegNum) (k : ShiftKind) (rm : RegNum) (s : State) : Out :=
  guarded c (shiftRegs [rd, rm, rs]) [rd, rm, rs] s (s.finishResult flags rd (aluMvn (s.shrOp rs k rm) s.cpsr))

end Sys2Proof.Machine
end

