-- ==== Sys2Proof/Machine/Multiply.lean ====
section
/-! DEFINITION. The multiply instructions (`42_multiply.md`). -/

namespace Sys2Proof.Machine

/-- The end of MUL and MLA: the low 32 bits to Rd, with S the flags, whose C is the next free bit (R194). -/
def State.finishMul (s : State) (flags : Bool) (rd : RegNum) (result : Word) : Out :=
  if flags then
    (({ s with cpsr := s.cpsr.withMul result (Config.freeBit s.draws), draws := s.draws + 1 } : State).writeReg rd
      result).advance
  else (s.writeReg rd result).advance

/-- The end of the long multiplies: the 64-bit result to RdHi:RdLo, with S the flags, whose C and V are the next two free
bits (R194). -/
def State.finishMulLong (s : State) (flags : Bool) (rdHi rdLo : RegNum) (result : BitVec 64) : Out :=
  let s' : State :=
    if flags then
      { s with
        cpsr := s.cpsr.withMulLong result (Config.freeBit s.draws) (Config.freeBit (s.draws + 1))
        draws := s.draws + 2 }
    else s
  ((s'.writeReg rdLo (result.extractLsb' 0 32)).writeReg rdHi (result.extractLsb' 32 32)).advance

/-- The unsigned 64-bit product (R195). -/
def umul (a b : Word) : BitVec 64 := BitVec.ofNat 64 (a.toNat * b.toNat)

/-- The signed 64-bit product (R197). -/
def smul (a b : Word) : BitVec 64 := BitVec.ofInt 64 (a.toInt * b.toInt)

/-- The accumulator RdHi:RdLo (R196, R198). -/
def State.accumulator (s : State) (rdHi rdLo : RegNum) : BitVec 64 := s.readReg rdHi ++ s.readReg rdLo

/-- MUL (R191, R193). -/
def execMul (c : Cond) (flags : Bool) (rd _ rs rm : RegNum) (s : State) : Out :=
  guarded c (faultUnless (mulOk rd rm [rd, rm, rs]) .mulOperands) [rd, rm, rs] s
    (s.finishMul flags rd (s.readReg rm * s.readReg rs))

/-- MLA (R192, R193). -/
def execMla (c : Cond) (flags : Bool) (rd rn rs rm : RegNum) (s : State) : Out :=
  guarded c (faultUnless (mulOk rd rm [rd, rm, rs, rn]) .mulOperands) [rd, rm, rs, rn] s
    (s.finishMul flags rd (s.readReg rm * s.readReg rs + s.readReg rn))

/-- UMULL (R195, R199). -/
def execUmull (c : Cond) (flags : Bool) (rdHi rdLo rs rm : RegNum) (s : State) : Out :=
  guarded c (faultUnless (mulLongOk rdHi rdLo rs rm) .mulLongOperands) [rdHi, rdLo, rs, rm] s
    (s.finishMulLong flags rdHi rdLo (umul (s.readReg rm) (s.readReg rs)))

/-- UMLAL (R196, R199). -/
def execUmlal (c : Cond) (flags : Bool) (rdHi rdLo rs rm : RegNum) (s : State) : Out :=
  guarded c (faultUnless (mulLongOk rdHi rdLo rs rm) .mulLongOperands) [rdHi, rdLo, rs, rm] s
    (s.finishMulLong flags rdHi rdLo (umul (s.readReg rm) (s.readReg rs) + s.accumulator rdHi rdLo))

/-- SMULL (R197, R199). -/
def execSmull (c : Cond) (flags : Bool) (rdHi rdLo rs rm : RegNum) (s : State) : Out :=
  guarded c (faultUnless (mulLongOk rdHi rdLo rs rm) .mulLongOperands) [rdHi, rdLo, rs, rm] s
    (s.finishMulLong flags rdHi rdLo (smul (s.readReg rm) (s.readReg rs)))

/-- SMLAL (R198, R199). -/
def execSmlal (c : Cond) (flags : Bool) (rdHi rdLo rs rm : RegNum) (s : State) : Out :=
  guarded c (faultUnless (mulLongOk rdHi rdLo rs rm) .mulLongOperands) [rdHi, rdLo, rs, rm] s
    (s.finishMulLong flags rdHi rdLo (smul (s.readReg rm) (s.readReg rs) + s.accumulator rdHi rdLo))

end Sys2Proof.Machine
end

