-- ==== Sys2Proof/Machine/Status.lean ====
section
/-! DEFINITION. Status register access (`48_status_register.md`). -/

namespace Sys2Proof.Machine

/-- The fields of a status register that a mask selects, taken from a word (R273): bit 3 of the mask is the flags, bit 0 the
control field (where `control` allows it); bits 2 and 1 select bits that hold no field. -/
def Psr.withFields (p : Psr) (mask : BitVec 4) (control : Bool) (v : Word) : Psr :=
  let q := Psr.ofWord v
  let p := if mask.getLsbD 3 then { p with n := q.n, z := q.z, c := q.c, v := q.v } else p
  if mask.getLsbD 0 && control then { p with i := q.i, f := q.f, t := q.t, m := q.m } else p

/-- `WritePSR` to the CPSR (R273): in User mode the control field is ignored silently; elsewhere T must not change and the
mode must be one of the seven. -/
def State.writeCpsr (s : State) (mask : BitVec 4) (v : Word) : Out :=
  if mask.getLsbD 0 && s.privileged then
    if (Psr.ofWord v).t != s.cpsr.t then .fault .msrThumb
    else if (Psr.ofWord v).mode = none then .fault .invalidMode
    else ({ s with cpsr := s.cpsr.withFields mask true v } : State).advance
  else ({ s with cpsr := s.cpsr.withFields mask false v } : State).advance

/-- `WritePSR` to the SPSR of the current mode (R273): usr and sys have none; the mode must be one of the seven; T is not
checked. -/
def State.writeSpsr (s : State) (mask : BitVec 4) (v : Word) : Out :=
  match s.cpsr.mode, s.spsr with
  | some m, some p =>
    if mask.getLsbD 0 && (Psr.ofWord v).mode = none then .fault .invalidMode
    else (s.setSpsr m (p.withFields mask true v)).advance
  | _, _ => .fault .noSpsr

/-- `WritePSR(R, field_mask, v)` (R273). -/
def State.writePsr (s : State) (spsr : Bool) (mask : BitVec 4) (v : Word) : Out :=
  if spsr then s.writeSpsr mask v else s.writeCpsr mask v

/-- MRS (R271). -/
def execMrs (c : Cond) (spsr : Bool) (rd : RegNum) (s : State) : Out :=
  guarded c (faultUnless (noR15 [rd]) .statusR15) [rd] s
    (if spsr then
      match s.spsr with
      | some p => (s.writeReg rd p.toWord).advance
      | none => .fault .noSpsr
    else (s.writeReg rd s.cpsr.toWord).advance)

/-- MSR from a register (R272). -/
def execMsrReg (c : Cond) (spsr : Bool) (mask : BitVec 4) (rm : RegNum) (s : State) : Out :=
  guarded c (faultUnless (noR15 [rm]) .statusR15) [rm] s (s.writePsr spsr mask (s.readReg rm))

/-- MSR with an immediate (R274). -/
def execMsrImm (c : Cond) (spsr : Bool) (mask rotate : BitVec 4) (imm8 : BitVec 8) (s : State) : Out :=
  guarded c none [] s (s.writePsr spsr mask (rotatedImm rotate imm8))

end Sys2Proof.Machine
end

