-- ==== Sys2Proof/Machine/Swap.lean ====
section
/-! DEFINITION. The swap instructions (`45_swap.md`). -/

namespace Sys2Proof.Machine

/-- The swap of a width (R251, R252): a read and a write of one address, then Rd. An abort of either changes neither memory
nor Rd. -/
def State.swap (s : State) (z : Size) (rn rd rm : RegNum) : Out :=
  match s.memRead s.privileged z (s.readReg rn) with
  | .fault f => .fault f
  | .abort => .next (s.takeException .dataAbort)
  | .ok old =>
    match s.memWrite s.privileged z (s.readReg rn) (s.readReg rm) with
    | .fault f => .fault f
    | .abort => .next (s.takeException .dataAbort)
    | .ok s' => (s'.writeReg rd old).advance

/-- SWP (R251, R253). -/
def execSwp (c : Cond) (rn rd rm : RegNum) (s : State) : Out :=
  guarded c (faultUnless (swapOk rn rd rm) .swapOperands) [rn, rd, rm] s (s.swap .word rn rd rm)

/-- SWPB (R252, R253). -/
def execSwpb (c : Cond) (rn rd rm : RegNum) (s : State) : Out :=
  guarded c (faultUnless (swapOk rn rd rm) .swapOperands) [rn, rd, rm] s (s.swap .byte rn rd rm)

end Sys2Proof.Machine
end

