-- ==== Sys2Proof/Machine/Transfer.lean ====
section
/-! DEFINITION. Single-register loads and stores (`43_load_store.md`): words and bytes, their user-privilege forms, and
halfwords and signed data. -/

namespace Sys2Proof.Machine

/-- How a loaded value fills the register (R210, R212, R215, R216). -/
inductive Extend where
  | zero | signByte | signHalf
  deriving DecidableEq, Repr

/-- The 32-bit value of loaded data, which `MemRead` gives zero-extended. -/
def Extend.apply (e : Extend) (v : Word) : Word :=
  match e with
  | .zero => v
  | .signByte => (v.extractLsb' 0 8).signExtend 32
  | .signHalf => (v.extractLsb' 0 16).signExtend 32

/-- A data abort of a single transfer (R207): the base write-back follows ABORT_BASE_MODEL (`20_memory.md` R74), and the
exception is taken. -/
def State.abortTransfer (s : State) (rn : RegNum) (writeBack : Option Word) : Out :=
  .next ((if s.platform.baseUpdated then s.writeBase rn writeBack else s).takeException .dataAbort)

/-- The transfer of a load (R202, R207): the read, the base write-back, then Rd, which for R15 is a branch (R206). -/
def State.load (s : State) (privileged : Bool) (z : Size) (e : Extend) (rn rd : RegNum) (ad : Addressing) : Out :=
  match s.memRead privileged z ad.address with
  | .fault f => .fault f
  | .abort => s.abortTransfer rn ad.writeBack
  | .ok v =>
    if rd = 15 then (s.writeBase rn ad.writeBack).branchTo (e.apply v)
    else ((s.writeBase rn ad.writeBack).writeReg rd (e.apply v)).advance

/-- The transfer of a store (R202, R207): the value of Rd before any write-back (R209), then the base write-back. -/
def State.storeReg (s : State) (privileged : Bool) (z : Size) (rn rd : RegNum) (ad : Addressing) : Out :=
  match s.memWrite privileged z ad.address (s.readReg rd) with
  | .fault f => .fault f
  | .abort => s.abortTransfer rn ad.writeBack
  | .ok s' => (s'.writeBase rn ad.writeBack).advance

/-- The restrictions on a form with an immediate offset (R205). -/
def immForm (writeBack : Bool) (rn rd : RegNum) : Option Fault := faultUnless (baseOk writeBack rn rd) .transferOperands

/-- The restrictions on a form with a register offset (R205). -/
def regForm (writeBack : Bool) (rn rd rm : RegNum) : Option Fault :=
  faultUnless (baseOk writeBack rn rd && offsetRegOk writeBack rn rm) .transferOperands

/-- And R15 as Rd is excluded (R206, R214, R217). -/
def notR15 (rd : RegNum) (rest : Option Fault) : Option Fault := if dataRegOk rd then rest else some .transferR15

/-- And format HW excludes P = 0 with W = 1 (R217). -/
def halfForm (p w : Bool) (rest : Option Fault) : Option Fault :=
  if halfModeOk p w then rest else some .halfPostWriteBack

/-- A form of format HW writes its base back when it is post-indexed or has W (R202). -/
def halfWritesBack (p w : Bool) : Bool := !p || w

/-- STR, pre-indexed, immediate offset (R209). -/
def execStrPreImm (c : Cond) (u w : Bool) (rn rd : RegNum) (offset12 : BitVec 12) (s : State) : Out :=
  guarded c (notR15 rd (immForm w rn rd)) [rn, rd] s
    (s.storeReg s.privileged .word rn rd (preIndexed (s.readReg rn) (offset12.setWidth 32) u w))

/-- STR, post-indexed, immediate offset (R209). -/
def execStrPostImm (c : Cond) (u : Bool) (rn rd : RegNum) (offset12 : BitVec 12) (s : State) : Out :=
  guarded c (notR15 rd (immForm true rn rd)) [rn, rd] s
    (s.storeReg s.privileged .word rn rd (postIndexed (s.readReg rn) (offset12.setWidth 32) u))

/-- STRT, immediate offset, with the user's rights (R214). -/
def execStrtImm (c : Cond) (u : Bool) (rn rd : RegNum) (offset12 : BitVec 12) (s : State) : Out :=
  guarded c (notR15 rd (immForm true rn rd)) [rn, rd] s
    (s.storeReg false .word rn rd (postIndexed (s.readReg rn) (offset12.setWidth 32) u))

/-- STR, pre-indexed, register offset (R209). -/
def execStrPreReg (c : Cond) (u w : Bool) (rn rd : RegNum) (amount : BitVec 5) (k : ShiftKind) (rm : RegNum) (s : State) : Out :=
  guarded c (notR15 rd (regForm w rn rd rm)) [rn, rd, rm] s
    (s.storeReg s.privileged .word rn rd (preIndexed (s.readReg rn) (s.shiftedOffset amount k rm) u w))

/-- STR, post-indexed, register offset (R209). -/
def execStrPostReg (c : Cond) (u : Bool) (rn rd : RegNum) (amount : BitVec 5) (k : ShiftKind) (rm : RegNum) (s : State) : Out :=
  guarded c (notR15 rd (regForm true rn rd rm)) [rn, rd, rm] s
    (s.storeReg s.privileged .word rn rd (postIndexed (s.readReg rn) (s.shiftedOffset amount k rm) u))

/-- STRT, register offset, with the user's rights (R214). -/
def execStrtReg (c : Cond) (u : Bool) (rn rd : RegNum) (amount : BitVec 5) (k : ShiftKind) (rm : RegNum) (s : State) : Out :=
  guarded c (notR15 rd (regForm true rn rd rm)) [rn, rd, rm] s
    (s.storeReg false .word rn rd (postIndexed (s.readReg rn) (s.shiftedOffset amount k rm) u))

/-- LDR, pre-indexed, immediate offset (R208). -/
def execLdrPreImm (c : Cond) (u w : Bool) (rn rd : RegNum) (offset12 : BitVec 12) (s : State) : Out :=
  guarded c (immForm w rn rd) [rn, rd] s
    (s.load s.privileged .word .zero rn rd (preIndexed (s.readReg rn) (offset12.setWidth 32) u w))

/-- LDR, post-indexed, immediate offset (R208). -/
def execLdrPostImm (c : Cond) (u : Bool) (rn rd : RegNum) (offset12 : BitVec 12) (s : State) : Out :=
  guarded c (immForm true rn rd) [rn, rd] s
    (s.load s.privileged .word .zero rn rd (postIndexed (s.readReg rn) (offset12.setWidth 32) u))

/-- LDRT, immediate offset, with the user's rights (R214). -/
def execLdrtImm (c : Cond) (u : Bool) (rn rd : RegNum) (offset12 : BitVec 12) (s : State) : Out :=
  guarded c (notR15 rd (immForm true rn rd)) [rn, rd] s
    (s.load false .word .zero rn rd (postIndexed (s.readReg rn) (offset12.setWidth 32) u))

/-- LDR, pre-indexed, register offset (R208). -/
def execLdrPreReg (c : Cond) (u w : Bool) (rn rd : RegNum) (amount : BitVec 5) (k : ShiftKind) (rm : RegNum) (s : State) : Out :=
  guarded c (regForm w rn rd rm) [rn, rd, rm] s
    (s.load s.privileged .word .zero rn rd (preIndexed (s.readReg rn) (s.shiftedOffset amount k rm) u w))

/-- LDR, post-indexed, register offset (R208). -/
def execLdrPostReg (c : Cond) (u : Bool) (rn rd : RegNum) (amount : BitVec 5) (k : ShiftKind) (rm : RegNum) (s : State) : Out :=
  guarded c (regForm true rn rd rm) [rn, rd, rm] s
    (s.load s.privileged .word .zero rn rd (postIndexed (s.readReg rn) (s.shiftedOffset amount k rm) u))

/-- LDRT, register offset, with the user's rights (R214). -/
def execLdrtReg (c : Cond) (u : Bool) (rn rd : RegNum) (amount : BitVec 5) (k : ShiftKind) (rm : RegNum) (s : State) : Out :=
  guarded c (notR15 rd (regForm true rn rd rm)) [rn, rd, rm] s
    (s.load false .word .zero rn rd (postIndexed (s.readReg rn) (s.shiftedOffset amount k rm) u))

/-- STRB, pre-indexed, immediate offset (R211). -/
def execStrbPreImm (c : Cond) (u w : Bool) (rn rd : RegNum) (offset12 : BitVec 12) (s : State) : Out :=
  guarded c (notR15 rd (immForm w rn rd)) [rn, rd] s
    (s.storeReg s.privileged .byte rn rd (preIndexed (s.readReg rn) (offset12.setWidth 32) u w))

/-- STRB, post-indexed, immediate offset (R211). -/
def execStrbPostImm (c : Cond) (u : Bool) (rn rd : RegNum) (offset12 : BitVec 12) (s : State) : Out :=
  guarded c (notR15 rd (immForm true rn rd)) [rn, rd] s
    (s.storeReg s.privileged .byte rn rd (postIndexed (s.readReg rn) (offset12.setWidth 32) u))

/-- STRBT, immediate offset, with the user's rights (R214). -/
def execStrbtImm (c : Cond) (u : Bool) (rn rd : RegNum) (offset12 : BitVec 12) (s : State) : Out :=
  guarded c (notR15 rd (immForm true rn rd)) [rn, rd] s
    (s.storeReg false .byte rn rd (postIndexed (s.readReg rn) (offset12.setWidth 32) u))

/-- STRB, pre-indexed, register offset (R211). -/
def execStrbPreReg (c : Cond) (u w : Bool) (rn rd : RegNum) (amount : BitVec 5) (k : ShiftKind) (rm : RegNum) (s : State) : Out :=
  guarded c (notR15 rd (regForm w rn rd rm)) [rn, rd, rm] s
    (s.storeReg s.privileged .byte rn rd (preIndexed (s.readReg rn) (s.shiftedOffset amount k rm) u w))

/-- STRB, post-indexed, register offset (R211). -/
def execStrbPostReg (c : Cond) (u : Bool) (rn rd : RegNum) (amount : BitVec 5) (k : ShiftKind) (rm : RegNum) (s : State) : Out :=
  guarded c (notR15 rd (regForm true rn rd rm)) [rn, rd, rm] s
    (s.storeReg s.privileged .byte rn rd (postIndexed (s.readReg rn) (s.shiftedOffset amount k rm) u))

/-- STRBT, register offset, with the user's rights (R214). -/
def execStrbtReg (c : Cond) (u : Bool) (rn rd : RegNum) (amount : BitVec 5) (k : ShiftKind) (rm : RegNum) (s : State) : Out :=
  guarded c (notR15 rd (regForm true rn rd rm)) [rn, rd, rm] s
    (s.storeReg false .byte rn rd (postIndexed (s.readReg rn) (s.shiftedOffset amount k rm) u))

/-- LDRB, pre-indexed, immediate offset (R210). -/
def execLdrbPreImm (c : Cond) (u w : Bool) (rn rd : RegNum) (offset12 : BitVec 12) (s : State) : Out :=
  guarded c (notR15 rd (immForm w rn rd)) [rn, rd] s
    (s.load s.privileged .byte .zero rn rd (preIndexed (s.readReg rn) (offset12.setWidth 32) u w))

/-- LDRB, post-indexed, immediate offset (R210). -/
def execLdrbPostImm (c : Cond) (u : Bool) (rn rd : RegNum) (offset12 : BitVec 12) (s : State) : Out :=
  guarded c (notR15 rd (immForm true rn rd)) [rn, rd] s
    (s.load s.privileged .byte .zero rn rd (postIndexed (s.readReg rn) (offset12.setWidth 32) u))

/-- LDRBT, immediate offset, with the user's rights (R214). -/
def execLdrbtImm (c : Cond) (u : Bool) (rn rd : RegNum) (offset12 : BitVec 12) (s : State) : Out :=
  guarded c (notR15 rd (immForm true rn rd)) [rn, rd] s
    (s.load false .byte .zero rn rd (postIndexed (s.readReg rn) (offset12.setWidth 32) u))

/-- LDRB, pre-indexed, register offset (R210). -/
def execLdrbPreReg (c : Cond) (u w : Bool) (rn rd : RegNum) (amount : BitVec 5) (k : ShiftKind) (rm : RegNum) (s : State) : Out :=
  guarded c (notR15 rd (regForm w rn rd rm)) [rn, rd, rm] s
    (s.load s.privileged .byte .zero rn rd (preIndexed (s.readReg rn) (s.shiftedOffset amount k rm) u w))

/-- LDRB, post-indexed, register offset (R210). -/
def execLdrbPostReg (c : Cond) (u : Bool) (rn rd : RegNum) (amount : BitVec 5) (k : ShiftKind) (rm : RegNum) (s : State) : Out :=
  guarded c (notR15 rd (regForm true rn rd rm)) [rn, rd, rm] s
    (s.load s.privileged .byte .zero rn rd (postIndexed (s.readReg rn) (s.shiftedOffset amount k rm) u))

/-- LDRBT, register offset, with the user's rights (R214). -/
def execLdrbtReg (c : Cond) (u : Bool) (rn rd : RegNum) (amount : BitVec 5) (k : ShiftKind) (rm : RegNum) (s : State) : Out :=
  guarded c (notR15 rd (regForm true rn rd rm)) [rn, rd, rm] s
    (s.load false .byte .zero rn rd (postIndexed (s.readReg rn) (s.shiftedOffset amount k rm) u))

/-- STRH, register offset (R213, R217). -/
def execStrhReg (c : Cond) (p u w : Bool) (rn rd rm : RegNum) (s : State) : Out :=
  guarded c (halfForm p w (notR15 rd (regForm (halfWritesBack p w) rn rd rm))) [rn, rd, rm] s
    (s.storeReg s.privileged .half rn rd (indexed p (s.readReg rn) (s.readReg rm) u w))

/-- STRH, immediate offset (R213, R217). -/
def execStrhImm (c : Cond) (p u w : Bool) (rn rd : RegNum) (offset8 : BitVec 8) (s : State) : Out :=
  guarded c (halfForm p w (notR15 rd (immForm (halfWritesBack p w) rn rd))) [rn, rd] s
    (s.storeReg s.privileged .half rn rd (indexed p (s.readReg rn) (offset8.setWidth 32) u w))

/-- LDRH, register offset (R212, R217). -/
def execLdrhReg (c : Cond) (p u w : Bool) (rn rd rm : RegNum) (s : State) : Out :=
  guarded c (halfForm p w (notR15 rd (regForm (halfWritesBack p w) rn rd rm))) [rn, rd, rm] s
    (s.load s.privileged .half .zero rn rd (indexed p (s.readReg rn) (s.readReg rm) u w))

/-- LDRH, immediate offset (R212, R217). -/
def execLdrhImm (c : Cond) (p u w : Bool) (rn rd : RegNum) (offset8 : BitVec 8) (s : State) : Out :=
  guarded c (halfForm p w (notR15 rd (immForm (halfWritesBack p w) rn rd))) [rn, rd] s
    (s.load s.privileged .half .zero rn rd (indexed p (s.readReg rn) (offset8.setWidth 32) u w))

/-- LDRSB, register offset (R215, R217). -/
def execLdrsbReg (c : Cond) (p u w : Bool) (rn rd rm : RegNum) (s : State) : Out :=
  guarded c (halfForm p w (notR15 rd (regForm (halfWritesBack p w) rn rd rm))) [rn, rd, rm] s
    (s.load s.privileged .byte .signByte rn rd (indexed p (s.readReg rn) (s.readReg rm) u w))

/-- LDRSB, immediate offset (R215, R217). -/
def execLdrsbImm (c : Cond) (p u w : Bool) (rn rd : RegNum) (offset8 : BitVec 8) (s : State) : Out :=
  guarded c (halfForm p w (notR15 rd (immForm (halfWritesBack p w) rn rd))) [rn, rd] s
    (s.load s.privileged .byte .signByte rn rd (indexed p (s.readReg rn) (offset8.setWidth 32) u w))

/-- LDRSH, register offset (R216, R217). -/
def execLdrshReg (c : Cond) (p u w : Bool) (rn rd rm : RegNum) (s : State) : Out :=
  guarded c (halfForm p w (notR15 rd (regForm (halfWritesBack p w) rn rd rm))) [rn, rd, rm] s
    (s.load s.privileged .half .signHalf rn rd (indexed p (s.readReg rn) (s.readReg rm) u w))

/-- LDRSH, immediate offset (R216, R217). -/
def execLdrshImm (c : Cond) (p u w : Bool) (rn rd : RegNum) (offset8 : BitVec 8) (s : State) : Out :=
  guarded c (halfForm p w (notR15 rd (immForm (halfWritesBack p w) rn rd))) [rn, rd] s
    (s.load s.privileged .half .signHalf rn rd (indexed p (s.readReg rn) (offset8.setWidth 32) u w))

end Sys2Proof.Machine
end

