-- ==== Sys2Proof/Machine/Trap.lean ====
section
/-! DEFINITION. The instructions whose effect is an exception: SWI (`46_swi.md`), the Undefined format and, with no
coprocessor present, the coprocessor instructions (`49_coprocessor_undefined.md`). -/

namespace Sys2Proof.Machine

/-- SWI: the number has no effect (R255, R256). -/
def execSwi (c : Cond) (_ : BitVec 24) (s : State) : Out :=
  guarded c none [] s (.next (s.takeException .swi))

/-- The Undefined format (R285). -/
def execUndefined (c : Cond) (_ : BitVec 20) (_ : BitVec 4) (s : State) : Out :=
  guarded c none [] s (.next (s.takeException .undefined))

/-- A coprocessor instruction: with its coprocessor absent, the undefined-instruction exception and nothing else (R284); a
coprocessor the platform declares present has no specification (`93_implementation_defined.md` F2). DESIGN CHOICE, unsafe (log
entry 13): right after a User-bank transfer the ARM register in a field of the instruction (Rn of LDC and STC, Rd of MCR and MRC)
counts neither as read nor as written, so the hazard of R365 does not apply to these formats. -/
def State.coprocessor (s : State) (cp : BitVec 4) : Out :=
  if s.platform.coprocessors.contains cp then .refused (.coprocessorUnspecified cp)
  else .next (s.takeException .undefined)

/-- LDC (R282, R284); Rn is not touched for R365 (log entry 13). -/
def execLdc (c : Cond) (_ _ _ _ : Bool) (_ : RegNum) (_ cp : BitVec 4) (_ : BitVec 8) (s : State) : Out :=
  guarded c none [] s (s.coprocessor cp)

/-- STC (R283, R284); Rn is not touched for R365 (log entry 13). -/
def execStc (c : Cond) (_ _ _ _ : Bool) (_ : RegNum) (_ cp : BitVec 4) (_ : BitVec 8) (s : State) : Out :=
  guarded c none [] s (s.coprocessor cp)

/-- CDP (R281, R284). -/
def execCdp (c : Cond) (_ _ _ cp : BitVec 4) (_ : BitVec 3) (_ : BitVec 4) (s : State) : Out :=
  guarded c none [] s (s.coprocessor cp)

/-- MCR (R286, R284); Rd is not touched for R365 (log entry 13). -/
def execMcr (c : Cond) (_ : BitVec 3) (_ : BitVec 4) (_ : RegNum) (cp : BitVec 4) (_ : BitVec 3) (_ : BitVec 4)
    (s : State) : Out :=
  guarded c none [] s (s.coprocessor cp)

/-- MRC (R287, R284); Rd is not touched for R365 (log entry 13). -/
def execMrc (c : Cond) (_ : BitVec 3) (_ : BitVec 4) (_ : RegNum) (cp : BitVec 4) (_ : BitVec 3) (_ : BitVec 4)
    (s : State) : Out :=
  guarded c none [] s (s.coprocessor cp)

end Sys2Proof.Machine
end

