-- ==== Sys2Proof/Machine/Dispatch.lean ====
section
/-! DEFINITION. The dispatch of an instruction to its meaning: one arm a constructor. -/

namespace Sys2Proof.Machine

def exec (i : Instr) (s : State) : Host.Outcome State Fault Refusal :=
  match i with
  | .andImm a b d e f g => Sys2Proof.Machine.execAndImm a b d e f g s
  | .andShi a b d e f g h => Sys2Proof.Machine.execAndShi a b d e f g h s
  | .andShr a b d e f g h => Sys2Proof.Machine.execAndShr a b d e f g h s
  | .eorImm a b d e f g => Sys2Proof.Machine.execEorImm a b d e f g s
  | .eorShi a b d e f g h => Sys2Proof.Machine.execEorShi a b d e f g h s
  | .eorShr a b d e f g h => Sys2Proof.Machine.execEorShr a b d e f g h s
  | .subImm a b d e f g => Sys2Proof.Machine.execSubImm a b d e f g s
  | .subShi a b d e f g h => Sys2Proof.Machine.execSubShi a b d e f g h s
  | .subShr a b d e f g h => Sys2Proof.Machine.execSubShr a b d e f g h s
  | .rsbImm a b d e f g => Sys2Proof.Machine.execRsbImm a b d e f g s
  | .rsbShi a b d e f g h => Sys2Proof.Machine.execRsbShi a b d e f g h s
  | .rsbShr a b d e f g h => Sys2Proof.Machine.execRsbShr a b d e f g h s
  | .addImm a b d e f g => Sys2Proof.Machine.execAddImm a b d e f g s
  | .addShi a b d e f g h => Sys2Proof.Machine.execAddShi a b d e f g h s
  | .addShr a b d e f g h => Sys2Proof.Machine.execAddShr a b d e f g h s
  | .adcImm a b d e f g => Sys2Proof.Machine.execAdcImm a b d e f g s
  | .adcShi a b d e f g h => Sys2Proof.Machine.execAdcShi a b d e f g h s
  | .adcShr a b d e f g h => Sys2Proof.Machine.execAdcShr a b d e f g h s
  | .sbcImm a b d e f g => Sys2Proof.Machine.execSbcImm a b d e f g s
  | .sbcShi a b d e f g h => Sys2Proof.Machine.execSbcShi a b d e f g h s
  | .sbcShr a b d e f g h => Sys2Proof.Machine.execSbcShr a b d e f g h s
  | .rscImm a b d e f g => Sys2Proof.Machine.execRscImm a b d e f g s
  | .rscShi a b d e f g h => Sys2Proof.Machine.execRscShi a b d e f g h s
  | .rscShr a b d e f g h => Sys2Proof.Machine.execRscShr a b d e f g h s
  | .tstImm a b d e f => Sys2Proof.Machine.execTstImm a b d e f s
  | .tstShi a b d e f g => Sys2Proof.Machine.execTstShi a b d e f g s
  | .tstShr a b d e f g => Sys2Proof.Machine.execTstShr a b d e f g s
  | .teqImm a b d e f => Sys2Proof.Machine.execTeqImm a b d e f s
  | .teqShi a b d e f g => Sys2Proof.Machine.execTeqShi a b d e f g s
  | .teqShr a b d e f g => Sys2Proof.Machine.execTeqShr a b d e f g s
  | .cmpImm a b d e f => Sys2Proof.Machine.execCmpImm a b d e f s
  | .cmpShi a b d e f g => Sys2Proof.Machine.execCmpShi a b d e f g s
  | .cmpShr a b d e f g => Sys2Proof.Machine.execCmpShr a b d e f g s
  | .cmnImm a b d e f => Sys2Proof.Machine.execCmnImm a b d e f s
  | .cmnShi a b d e f g => Sys2Proof.Machine.execCmnShi a b d e f g s
  | .cmnShr a b d e f g => Sys2Proof.Machine.execCmnShr a b d e f g s
  | .orrImm a b d e f g => Sys2Proof.Machine.execOrrImm a b d e f g s
  | .orrShi a b d e f g h => Sys2Proof.Machine.execOrrShi a b d e f g h s
  | .orrShr a b d e f g h => Sys2Proof.Machine.execOrrShr a b d e f g h s
  | .movImm a b d e f g => Sys2Proof.Machine.execMovImm a b d e f g s
  | .movShi a b d e f g h => Sys2Proof.Machine.execMovShi a b d e f g h s
  | .movShr a b d e f g h => Sys2Proof.Machine.execMovShr a b d e f g h s
  | .bicImm a b d e f g => Sys2Proof.Machine.execBicImm a b d e f g s
  | .bicShi a b d e f g h => Sys2Proof.Machine.execBicShi a b d e f g h s
  | .bicShr a b d e f g h => Sys2Proof.Machine.execBicShr a b d e f g h s
  | .mvnImm a b d e f g => Sys2Proof.Machine.execMvnImm a b d e f g s
  | .mvnShi a b d e f g h => Sys2Proof.Machine.execMvnShi a b d e f g h s
  | .mvnShr a b d e f g h => Sys2Proof.Machine.execMvnShr a b d e f g h s
  | .mul a b d e f g => Sys2Proof.Machine.execMul a b d e f g s
  | .mla a b d e f g => Sys2Proof.Machine.execMla a b d e f g s
  | .umull a b d e f g => Sys2Proof.Machine.execUmull a b d e f g s
  | .umlal a b d e f g => Sys2Proof.Machine.execUmlal a b d e f g s
  | .smull a b d e f g => Sys2Proof.Machine.execSmull a b d e f g s
  | .smlal a b d e f g => Sys2Proof.Machine.execSmlal a b d e f g s
  | .swp a b d e => Sys2Proof.Machine.execSwp a b d e s
  | .swpb a b d e => Sys2Proof.Machine.execSwpb a b d e s
  | .bx a b => Sys2Proof.Machine.execBx a b s
  | .mrs a b d => Sys2Proof.Machine.execMrs a b d s
  | .msrReg a b d e => Sys2Proof.Machine.execMsrReg a b d e s
  | .msrImm a b d e f => Sys2Proof.Machine.execMsrImm a b d e f s
  | .strhReg a b d e f g h => Sys2Proof.Machine.execStrhReg a b d e f g h s
  | .strhImm a b d e f g h => Sys2Proof.Machine.execStrhImm a b d e f g h s
  | .ldrhReg a b d e f g h => Sys2Proof.Machine.execLdrhReg a b d e f g h s
  | .ldrhImm a b d e f g h => Sys2Proof.Machine.execLdrhImm a b d e f g h s
  | .ldrsbReg a b d e f g h => Sys2Proof.Machine.execLdrsbReg a b d e f g h s
  | .ldrsbImm a b d e f g h => Sys2Proof.Machine.execLdrsbImm a b d e f g h s
  | .ldrshReg a b d e f g h => Sys2Proof.Machine.execLdrshReg a b d e f g h s
  | .ldrshImm a b d e f g h => Sys2Proof.Machine.execLdrshImm a b d e f g h s
  | .strPreImm a b d e f g => Sys2Proof.Machine.execStrPreImm a b d e f g s
  | .strPostImm a b d e f => Sys2Proof.Machine.execStrPostImm a b d e f s
  | .strtImm a b d e f => Sys2Proof.Machine.execStrtImm a b d e f s
  | .strPreReg a b d e f g h j => Sys2Proof.Machine.execStrPreReg a b d e f g h j s
  | .strPostReg a b d e f g h => Sys2Proof.Machine.execStrPostReg a b d e f g h s
  | .strtReg a b d e f g h => Sys2Proof.Machine.execStrtReg a b d e f g h s
  | .ldrPreImm a b d e f g => Sys2Proof.Machine.execLdrPreImm a b d e f g s
  | .ldrPostImm a b d e f => Sys2Proof.Machine.execLdrPostImm a b d e f s
  | .ldrtImm a b d e f => Sys2Proof.Machine.execLdrtImm a b d e f s
  | .ldrPreReg a b d e f g h j => Sys2Proof.Machine.execLdrPreReg a b d e f g h j s
  | .ldrPostReg a b d e f g h => Sys2Proof.Machine.execLdrPostReg a b d e f g h s
  | .ldrtReg a b d e f g h => Sys2Proof.Machine.execLdrtReg a b d e f g h s
  | .strbPreImm a b d e f g => Sys2Proof.Machine.execStrbPreImm a b d e f g s
  | .strbPostImm a b d e f => Sys2Proof.Machine.execStrbPostImm a b d e f s
  | .strbtImm a b d e f => Sys2Proof.Machine.execStrbtImm a b d e f s
  | .strbPreReg a b d e f g h j => Sys2Proof.Machine.execStrbPreReg a b d e f g h j s
  | .strbPostReg a b d e f g h => Sys2Proof.Machine.execStrbPostReg a b d e f g h s
  | .strbtReg a b d e f g h => Sys2Proof.Machine.execStrbtReg a b d e f g h s
  | .ldrbPreImm a b d e f g => Sys2Proof.Machine.execLdrbPreImm a b d e f g s
  | .ldrbPostImm a b d e f => Sys2Proof.Machine.execLdrbPostImm a b d e f s
  | .ldrbtImm a b d e f => Sys2Proof.Machine.execLdrbtImm a b d e f s
  | .ldrbPreReg a b d e f g h j => Sys2Proof.Machine.execLdrbPreReg a b d e f g h j s
  | .ldrbPostReg a b d e f g h => Sys2Proof.Machine.execLdrbPostReg a b d e f g h s
  | .ldrbtReg a b d e f g h => Sys2Proof.Machine.execLdrbtReg a b d e f g h s
  | .undefined a b d => Sys2Proof.Machine.execUndefined a b d s
  | .ldmia a b d e f => Sys2Proof.Machine.execLdmia a b d e f s
  | .ldmib a b d e f => Sys2Proof.Machine.execLdmib a b d e f s
  | .ldmda a b d e f => Sys2Proof.Machine.execLdmda a b d e f s
  | .ldmdb a b d e f => Sys2Proof.Machine.execLdmdb a b d e f s
  | .stmia a b d e f => Sys2Proof.Machine.execStmia a b d e f s
  | .stmib a b d e f => Sys2Proof.Machine.execStmib a b d e f s
  | .stmda a b d e f => Sys2Proof.Machine.execStmda a b d e f s
  | .stmdb a b d e f => Sys2Proof.Machine.execStmdb a b d e f s
  | .b a b => Sys2Proof.Machine.execB a b s
  | .bl a b => Sys2Proof.Machine.execBl a b s
  | .ldc a b d e f g h j k => Sys2Proof.Machine.execLdc a b d e f g h j k s
  | .stc a b d e f g h j k => Sys2Proof.Machine.execStc a b d e f g h j k s
  | .cdp a b d e f g h => Sys2Proof.Machine.execCdp a b d e f g h s
  | .mcr a b d e f g h => Sys2Proof.Machine.execMcr a b d e f g h s
  | .mrc a b d e f g h => Sys2Proof.Machine.execMrc a b d e f g h s
  | .swi a b => Sys2Proof.Machine.execSwi a b s

end Sys2Proof.Machine
end

