-- ==== Sys2Proof/Machine/Fetch.lean ====
section
/-! DEFINITION. What happens at an instruction boundary (`60_exceptions.md` R305): the lines are sampled, a pending exception
is taken, or the next instruction is fetched and decoded (`10_state.md` R31, `20_memory.md` R66). -/

namespace Sys2Proof.Machine

/-- What a boundary comes to: an exception taken there, an instruction to execute, a word that matches no row and whose
condition fails, or a stop. -/
inductive Boundary where
  | enter (s : State)
  | run (i : Instr) (s : State)
  | skip (s : State)
  | stop (f : Fault)
  | refuse (r : Refusal)
  deriving DecidableEq, Repr

/-- The sample of the three lines for this boundary, and the state that has the later ones left (R52). Past the end of the
list no line is asserted (D13). -/
def State.sample (s : State) : Lines × State :=
  match s.lines with
  | [] => (Lines.idle, s)
  | l :: rest => (l, { s with lines := rest })

/-- The word of a fetch that some stores may have missed: for each of them, oldest first, a free bit says whether the fetch
was made before it (`20_memory.md` R79, `93_implementation_defined.md` V4). -/
def chooseFetched (w : Option Word) (k : Nat) : List Stale → Option Word
  | [] => w
  | e :: rest => chooseFetched (if Config.freeBit k then e.old else w) (k + 1) rest

/-- The records of stores to the word that is fetched now. -/
def State.missed (s : State) : List Stale := s.stale.filter fun e => decide (e.addr = s.pc)

/-- The word fetched at `pc`; `none` where a byte of it has no value. -/
def State.fetchedWord (s : State) : Option Word := chooseFetched (s.wordAt s.pc) s.draws s.missed

/-- The state after the fetch: the records of this word are used up. -/
def State.afterFetch (s : State) : State :=
  { s with stale := s.stale.filter fun e => decide (e.addr ≠ s.pc), draws := s.draws + s.missed.length }

/-- `ConditionPassed` for the condition field of a word, whatever its other bits (`40_conditional_execution.md` R131); 1111
names no condition to fail (R133). -/
def State.wordPasses (s : State) (w : Word) : Bool :=
  match Cond.ofBits (field 28 4 w) with
  | some c => condPassed c s.cpsr
  | none => true

/-- Fetch and decode at `pc` (R31, R66): the alignment check of `MemRead`, the word, the decoder. A word with condition 1111
faults (R117); an unallocated word faults where its condition holds (R121) and is skipped where it fails
(`93_implementation_defined.md` section 2, U2). -/
def State.fetch (s : State) : Boundary :=
  if Size.word.misaligned s.pc then .stop (.misaligned s.pc)
  else
    match s.fetchedWord with
    | none => .stop (.unwritten s.pc)
    | some w =>
      match decode w with
      | .ok i => .run i s.afterFetch
      | .error (.condition15 w) => .stop (.condition15 w)
      | .error (.unallocated w) => if s.wordPasses w then .stop (.unallocated w) else .skip s.afterFetch
      | .error .truncated => .stop (.unwritten s.pc)

/-- The order of R305, with the lines of this boundary: Reset, FIQ, IRQ, prefetch abort, and then the fetch. -/
def State.arbitrate (s : State) (l : Lines) : Boundary :=
  if l.reset then .enter (s.takeException .reset)
  else if l.fiq && !s.cpsr.f then .enter (s.takeException .fiq)
  else if l.irq && !s.cpsr.i then .enter (s.takeException .irq)
  else if s.aborts s.pc 4 .fetch s.privileged then .enter (s.takeException .prefetchAbort)
  else s.fetch

/-- The whole boundary. With T = 1 the machine is outside the spec (`10_state.md` R43). -/
def State.boundary (s : State) : Boundary :=
  if s.cpsr.t then .refuse .thumbState else s.sample.2.arbitrate s.sample.1

/-- The state with a word placed where the next step fetches, in the platform's byte order, and nothing in the way of that
fetch: no earlier version of the word, no line asserted at this boundary, no abort of this fetch. -/
def State.placeWord (s : State) (w : Word) : State :=
  { s with
    mem := s.mem.writeAll s.pc (bytesOfWord s.platform.bigEnd w)
    stale := s.stale.filter fun e => decide (e.addr ≠ s.pc)
    lines := match s.lines with
      | [] => []
      | _ :: rest => Lines.idle :: rest
    platform := { s.platform with
      aborts := s.platform.aborts.filter fun e =>
        !(decide (e.kind = .fetch) && decide (e.first ≤ s.pc.toNat) && decide (s.pc.toNat ≤ e.last)) } }

end Sys2Proof.Machine
end

