-- ==== Sys2Proof/Machine/Step.lean ====
section
/-! DEFINITION. One step of the machine (`10_state.md` R31): the boundary of `Machine/Fetch.lean`, then `exec`. -/

namespace Sys2Proof.Machine

/-- One step: a pending exception is taken, or one instruction is fetched and executed, or skipped where its word matches no
row and its condition fails (`40_conditional_execution.md` R132, `93_implementation_defined.md` section 2). -/
def step (s : State) : Out :=
  match s.boundary with
  | .enter t => .next t
  | .run i t => exec i t
  | .skip t => t.advance
  | .stop f => .fault f
  | .refuse r => .refused r

/-- The state whose next step fetches the word `w`, of which the opcode table gives the low `nbits` bits; the bits above
are 0. An instruction is one word, so nothing else is placed. -/
def State.withFetchWord (s : State) (nbits w : Nat) : State := s.placeWord (BitVec.ofNat 32 (w % 2 ^ nbits))

end Sys2Proof.Machine
end

