-- ==== Sys2Proof/Safety.lean ====
section
/-! DEFINITION. What counts as a safe run: the invariant that every step keeps, the end of a run, and a run that meets no
fault and no refusal before it. -/

namespace Sys2Proof.Machine

/-- Bits [1:0] of the PC are zero (`10_state.md` R30). -/
def State.pcAligned (s : State) : Bool := decide (s.pc.toNat % 4 = 0)

/-- M[4:0] encodes one of the seven modes (`10_state.md` R44). -/
def State.legalMode (s : State) : Bool := s.cpsr.mode.isSome

/-- What every reachable state satisfies: the PC is aligned, T is 0 (R43), the mode is legal, and memory is canonical. -/
def State.inv (s : State) : Bool := s.pcAligned && !s.cpsr.t && s.legalMode && s.mem.wf

/-- Only the two words that follow may have been fetched ahead (`20_memory.md` R79): every record of a missed store is of the
word at `pc` or at `pc + 4`. -/
def State.prefetchInv (s : State) : Bool :=
  s.stale.all fun e => decide (e.addr = s.pc) || decide (e.addr = s.pc + 4)

/-- The end of a run by the parameter HALT_ADDR (`92_eei_decisions.md` D25): no step is taken from here. -/
def State.halted (s : State) (haltAddr : Word) : Bool := decide (s.pc = haltAddr)

/-- At most `k` steps, ending early at `haltAddr` (D25), at a fault or at a refusal. -/
def runUntil (haltAddr : Word) : Nat → State → Out
  | 0, s => .next s
  | k + 1, s =>
    if s.halted haltAddr then .next s
    else
      match step s with
      | .next t => runUntil haltAddr k t
      | .fault f => .fault f
      | .refused r => .refused r

/-- No fault and no refusal within `k` steps. -/
def State.safeFor (s : State) (haltAddr : Word) (k : Nat) : Prop := ∃ t, runUntil haltAddr k s = .next t

end Sys2Proof.Machine
end

