-- ==== Sys2Proof/WellFormed.lean ====
section
/-! DEFINITION. Well-formed instructions: those whose operand combination the spec gives a meaning
(`93_implementation_defined.md` section 2, the static part of U5 and U7 to U16). A well-formed instruction can still meet
a case that depends on the state: a misaligned address (U4), a mode without an SPSR (U6, U13, U16), an illegal mode
(U17). An ill-formed one is UNPREDICTABLE: executed with its condition true, it faults. -/

namespace Sys2Proof

open Machine in
/-- The operand combination is not UNPREDICTABLE. -/
def Instr.wf : Instr → Bool
  | .andImm _ _ _ _ _ _ => true
  | .andShi _ _ _ _ _ _ _ => true
  | .andShr _ _ rn rd rs _ rm => noR15 [rd, rn, rm, rs]
  | .eorImm _ _ _ _ _ _ => true
  | .eorShi _ _ _ _ _ _ _ => true
  | .eorShr _ _ rn rd rs _ rm => noR15 [rd, rn, rm, rs]
  | .subImm _ _ _ _ _ _ => true
  | .subShi _ _ _ _ _ _ _ => true
  | .subShr _ _ rn rd rs _ rm => noR15 [rd, rn, rm, rs]
  | .rsbImm _ _ _ _ _ _ => true
  | .rsbShi _ _ _ _ _ _ _ => true
  | .rsbShr _ _ rn rd rs _ rm => noR15 [rd, rn, rm, rs]
  | .addImm _ _ _ _ _ _ => true
  | .addShi _ _ _ _ _ _ _ => true
  | .addShr _ _ rn rd rs _ rm => noR15 [rd, rn, rm, rs]
  | .adcImm _ _ _ _ _ _ => true
  | .adcShi _ _ _ _ _ _ _ => true
  | .adcShr _ _ rn rd rs _ rm => noR15 [rd, rn, rm, rs]
  | .sbcImm _ _ _ _ _ _ => true
  | .sbcShi _ _ _ _ _ _ _ => true
  | .sbcShr _ _ rn rd rs _ rm => noR15 [rd, rn, rm, rs]
  | .rscImm _ _ _ _ _ _ => true
  | .rscShi _ _ _ _ _ _ _ => true
  | .rscShr _ _ rn rd rs _ rm => noR15 [rd, rn, rm, rs]
  | .tstImm _ _ _ _ _ => true
  | .tstShi _ _ _ _ _ _ => true
  | .tstShr _ rn _ rs _ rm => noR15 [rn, rm, rs]
  | .teqImm _ _ _ _ _ => true
  | .teqShi _ _ _ _ _ _ => true
  | .teqShr _ rn _ rs _ rm => noR15 [rn, rm, rs]
  | .cmpImm _ _ _ _ _ => true
  | .cmpShi _ _ _ _ _ _ => true
  | .cmpShr _ rn _ rs _ rm => noR15 [rn, rm, rs]
  | .cmnImm _ _ _ _ _ => true
  | .cmnShi _ _ _ _ _ _ => true
  | .cmnShr _ rn _ rs _ rm => noR15 [rn, rm, rs]
  | .orrImm _ _ _ _ _ _ => true
  | .orrShi _ _ _ _ _ _ _ => true
  | .orrShr _ _ rn rd rs _ rm => noR15 [rd, rn, rm, rs]
  | .movImm _ _ _ _ _ _ => true
  | .movShi _ _ _ _ _ _ _ => true
  | .movShr _ _ _ rd rs _ rm => noR15 [rd, rm, rs]
  | .bicImm _ _ _ _ _ _ => true
  | .bicShi _ _ _ _ _ _ _ => true
  | .bicShr _ _ rn rd rs _ rm => noR15 [rd, rn, rm, rs]
  | .mvnImm _ _ _ _ _ _ => true
  | .mvnShi _ _ _ _ _ _ _ => true
  | .mvnShr _ _ _ rd rs _ rm => noR15 [rd, rm, rs]
  | .mul _ _ rd _ rs rm => mulOk rd rm [rd, rm, rs]
  | .mla _ _ rd rn rs rm => mulOk rd rm [rd, rm, rs, rn]
  | .umull _ _ rdHi rdLo rs rm => mulLongOk rdHi rdLo rs rm
  | .umlal _ _ rdHi rdLo rs rm => mulLongOk rdHi rdLo rs rm
  | .smull _ _ rdHi rdLo rs rm => mulLongOk rdHi rdLo rs rm
  | .smlal _ _ rdHi rdLo rs rm => mulLongOk rdHi rdLo rs rm
  | .swp _ rn rd rm => swapOk rn rd rm
  | .swpb _ rn rd rm => swapOk rn rd rm
  | .bx _ rm => noR15 [rm]
  | .mrs _ _ rd => noR15 [rd]
  | .msrReg _ _ _ rm => noR15 [rm]
  | .msrImm _ _ _ _ _ => true
  | .strhReg _ p _ w rn rd rm => halfModeOk p w && dataRegOk rd && baseOk (!p || w) rn rd && offsetRegOk (!p || w) rn rm
  | .strhImm _ p _ w rn rd _ => halfModeOk p w && dataRegOk rd && baseOk (!p || w) rn rd
  | .ldrhReg _ p _ w rn rd rm => halfModeOk p w && dataRegOk rd && baseOk (!p || w) rn rd && offsetRegOk (!p || w) rn rm
  | .ldrhImm _ p _ w rn rd _ => halfModeOk p w && dataRegOk rd && baseOk (!p || w) rn rd
  | .ldrsbReg _ p _ w rn rd rm => halfModeOk p w && dataRegOk rd && baseOk (!p || w) rn rd && offsetRegOk (!p || w) rn rm
  | .ldrsbImm _ p _ w rn rd _ => halfModeOk p w && dataRegOk rd && baseOk (!p || w) rn rd
  | .ldrshReg _ p _ w rn rd rm => halfModeOk p w && dataRegOk rd && baseOk (!p || w) rn rd && offsetRegOk (!p || w) rn rm
  | .ldrshImm _ p _ w rn rd _ => halfModeOk p w && dataRegOk rd && baseOk (!p || w) rn rd
  | .strPreImm _ _ w rn rd _ => dataRegOk rd && baseOk w rn rd
  | .strPostImm _ _ rn rd _ => dataRegOk rd && baseOk true rn rd
  | .strtImm _ _ rn rd _ => dataRegOk rd && baseOk true rn rd
  | .strPreReg _ _ w rn rd _ _ rm => dataRegOk rd && baseOk w rn rd && offsetRegOk w rn rm
  | .strPostReg _ _ rn rd _ _ rm => dataRegOk rd && baseOk true rn rd && offsetRegOk true rn rm
  | .strtReg _ _ rn rd _ _ rm => dataRegOk rd && baseOk true rn rd && offsetRegOk true rn rm
  | .ldrPreImm _ _ w rn rd _ => baseOk w rn rd
  | .ldrPostImm _ _ rn rd _ => baseOk true rn rd
  | .ldrtImm _ _ rn rd _ => dataRegOk rd && baseOk true rn rd
  | .ldrPreReg _ _ w rn rd _ _ rm => baseOk w rn rd && offsetRegOk w rn rm
  | .ldrPostReg _ _ rn rd _ _ rm => baseOk true rn rd && offsetRegOk true rn rm
  | .ldrtReg _ _ rn rd _ _ rm => dataRegOk rd && baseOk true rn rd && offsetRegOk true rn rm
  | .strbPreImm _ _ w rn rd _ => dataRegOk rd && baseOk w rn rd
  | .strbPostImm _ _ rn rd _ => dataRegOk rd && baseOk true rn rd
  | .strbtImm _ _ rn rd _ => dataRegOk rd && baseOk true rn rd
  | .strbPreReg _ _ w rn rd _ _ rm => dataRegOk rd && baseOk w rn rd && offsetRegOk w rn rm
  | .strbPostReg _ _ rn rd _ _ rm => dataRegOk rd && baseOk true rn rd && offsetRegOk true rn rm
  | .strbtReg _ _ rn rd _ _ rm => dataRegOk rd && baseOk true rn rd && offsetRegOk true rn rm
  | .ldrbPreImm _ _ w rn rd _ => dataRegOk rd && baseOk w rn rd
  | .ldrbPostImm _ _ rn rd _ => dataRegOk rd && baseOk true rn rd
  | .ldrbtImm _ _ rn rd _ => dataRegOk rd && baseOk true rn rd
  | .ldrbPreReg _ _ w rn rd _ _ rm => dataRegOk rd && baseOk w rn rd && offsetRegOk w rn rm
  | .ldrbPostReg _ _ rn rd _ _ rm => dataRegOk rd && baseOk true rn rd && offsetRegOk true rn rm
  | .ldrbtReg _ _ rn rd _ _ rm => dataRegOk rd && baseOk true rn rd && offsetRegOk true rn rm
  | .undefined _ _ _ => true
  | .ldmia _ s w rn list => ldmOk w rn list && userFormOk s w list
  | .ldmib _ s w rn list => ldmOk w rn list && userFormOk s w list
  | .ldmda _ s w rn list => ldmOk w rn list && userFormOk s w list
  | .ldmdb _ s w rn list => ldmOk w rn list && userFormOk s w list
  | .stmia _ s w rn list => stmOk w rn list && userFormOk s w list
  | .stmib _ s w rn list => stmOk w rn list && userFormOk s w list
  | .stmda _ s w rn list => stmOk w rn list && userFormOk s w list
  | .stmdb _ s w rn list => stmOk w rn list && userFormOk s w list
  | .b _ _ => true
  | .bl _ _ => true
  | .ldc _ _ _ _ _ _ _ _ _ => true
  | .stc _ _ _ _ _ _ _ _ _ => true
  | .cdp _ _ _ _ _ _ _ => true
  | .mcr _ _ _ _ _ _ _ => true
  | .mrc _ _ _ _ _ _ _ => true
  | .swi _ _ => true

end Sys2Proof
end

