-- ==== Sys2Proof/Certificates/Slice0/Obligations.lean ====
section
/-! DEFINITION. The statements about the model, for the provers. Before them, in `Sys2Proof.Claims`, the words they share:
groups of instructions of one shape, and the values the spec's rules give, written from the rules and not from the
model's own functions. -/

namespace Sys2Proof.Claims

open Sys2Proof.Machine

/-! ### Operands shared by the groups -/

/-- The second operand of a data-processing instruction (`41_data_processing.md` R141). -/
inductive Op2 where
  | imm (rotate : BitVec 4) (imm8 : BitVec 8)
  | shi (amount : BitVec 5) (shift : ShiftKind) (rm : RegNum)
  | shr (rs : RegNum) (shift : ShiftKind) (rm : RegNum)
  deriving DecidableEq, Repr

/-- The value and the shifter carry-out of an operand in a state: `RotatedImmediate`, `ShiftByImmediate` and
`ShiftByRegister` below say what they are. -/
def Op2.eval (o : Op2) (s : State) : Operand :=
  match o with
  | .imm rotate imm8 => s.immOp rotate imm8
  | .shi amount shift rm => s.shiOp amount shift rm
  | .shr rs shift rm => s.shrOp rs shift rm

/-- The registers an operand names. -/
def Op2.regs : Op2 → List RegNum
  | .imm _ _ => []
  | .shi _ _ rm => [rm]
  | .shr rs _ rm => [rm, rs]

/-- A flag as the number 0 or 1. -/
def bitWord (b : Bool) : Word := if b then 1 else 0

/-! ### Data processing -/

/-- The twelve operations that write a result. -/
inductive DpOp where
  | and | eor | sub | rsb | add | adc | sbc | rsc | orr | mov | bic | mvn
  deriving DecidableEq, Repr

/-- The four comparisons. -/
inductive CmpOp where
  | tst | teq | cmp | cmn
  deriving DecidableEq, Repr

/-- The instruction of an operation and an operand form; for MOV and MVN `rn` is the ignored field. -/
def DpOp.instr (op : DpOp) (o : Op2) (c : Cond) (flags : Bool) (rn rd : RegNum) : Instr :=
  match op, o with
  | .and, .imm rot i => .andImm c flags rn rd rot i
  | .and, .shi n k rm => .andShi c flags rn rd n k rm
  | .and, .shr rs k rm => .andShr c flags rn rd rs k rm
  | .eor, .imm rot i => .eorImm c flags rn rd rot i
  | .eor, .shi n k rm => .eorShi c flags rn rd n k rm
  | .eor, .shr rs k rm => .eorShr c flags rn rd rs k rm
  | .sub, .imm rot i => .subImm c flags rn rd rot i
  | .sub, .shi n k rm => .subShi c flags rn rd n k rm
  | .sub, .shr rs k rm => .subShr c flags rn rd rs k rm
  | .rsb, .imm rot i => .rsbImm c flags rn rd rot i
  | .rsb, .shi n k rm => .rsbShi c flags rn rd n k rm
  | .rsb, .shr rs k rm => .rsbShr c flags rn rd rs k rm
  | .add, .imm rot i => .addImm c flags rn rd rot i
  | .add, .shi n k rm => .addShi c flags rn rd n k rm
  | .add, .shr rs k rm => .addShr c flags rn rd rs k rm
  | .adc, .imm rot i => .adcImm c flags rn rd rot i
  | .adc, .shi n k rm => .adcShi c flags rn rd n k rm
  | .adc, .shr rs k rm => .adcShr c flags rn rd rs k rm
  | .sbc, .imm rot i => .sbcImm c flags rn rd rot i
  | .sbc, .shi n k rm => .sbcShi c flags rn rd n k rm
  | .sbc, .shr rs k rm => .sbcShr c flags rn rd rs k rm
  | .rsc, .imm rot i => .rscImm c flags rn rd rot i
  | .rsc, .shi n k rm => .rscShi c flags rn rd n k rm
  | .rsc, .shr rs k rm => .rscShr c flags rn rd rs k rm
  | .orr, .imm rot i => .orrImm c flags rn rd rot i
  | .orr, .shi n k rm => .orrShi c flags rn rd n k rm
  | .orr, .shr rs k rm => .orrShr c flags rn rd rs k rm
  | .mov, .imm rot i => .movImm c flags rn rd rot i
  | .mov, .shi n k rm => .movShi c flags rn rd n k rm
  | .mov, .shr rs k rm => .movShr c flags rn rd rs k rm
  | .bic, .imm rot i => .bicImm c flags rn rd rot i
  | .bic, .shi n k rm => .bicShi c flags rn rd n k rm
  | .bic, .shr rs k rm => .bicShr c flags rn rd rs k rm
  | .mvn, .imm rot i => .mvnImm c flags rn rd rot i
  | .mvn, .shi n k rm => .mvnShi c flags rn rd n k rm
  | .mvn, .shr rs k rm => .mvnShr c flags rn rd rs k rm

/-- The instruction of a comparison and an operand form; `sbz` is the ignored field. -/
def CmpOp.instr (op : CmpOp) (o : Op2) (c : Cond) (rn sbz : RegNum) : Instr :=
  match op, o with
  | .tst, .imm rot i => .tstImm c rn sbz rot i
  | .tst, .shi n k rm => .tstShi c rn sbz n k rm
  | .tst, .shr rs k rm => .tstShr c rn sbz rs k rm
  | .teq, .imm rot i => .teqImm c rn sbz rot i
  | .teq, .shi n k rm => .teqShi c rn sbz n k rm
  | .teq, .shr rs k rm => .teqShr c rn sbz rs k rm
  | .cmp, .imm rot i => .cmpImm c rn sbz rot i
  | .cmp, .shi n k rm => .cmpShi c rn sbz n k rm
  | .cmp, .shr rs k rm => .cmpShr c rn sbz rs k rm
  | .cmn, .imm rot i => .cmnImm c rn sbz rot i
  | .cmn, .shi n k rm => .cmnShi c rn sbz n k rm
  | .cmn, .shr rs k rm => .cmnShr c rn sbz rs k rm

/-- The registers of the current bank that the instruction names (MOV and MVN have no first operand). -/
def DpOp.regs (op : DpOp) (o : Op2) (rn rd : RegNum) : List RegNum :=
  match op with
  | .mov | .mvn => rd :: o.regs
  | _ => rd :: rn :: o.regs

/-- The result, by R160 to R165 and R170 to R175: `a` is Rn, `b` the operand, `c` the C flag. -/
def DpOp.result (op : DpOp) (a b : Word) (c : Bool) : Word :=
  match op with
  | .and => a &&& b
  | .eor => (a &&& ~~~b) ||| (b &&& ~~~a)
  | .sub => a - b
  | .rsb => b - a
  | .add => a + b
  | .adc => a + b + bitWord c
  | .sbc => a - b - 1 + bitWord c
  | .rsc => b - a - 1 + bitWord c
  | .orr => a ||| b
  | .mov => b
  | .bic => a &&& ~~~b
  | .mvn => 0xFFFFFFFF ^^^ b

/-- The new C: carry of an addition (R150), no borrow of a subtraction (R151), the shifter's carry of a logical operation
(R152). -/
def DpOp.newC (op : DpOp) (a b : Word) (c shifterCarry : Bool) : Bool :=
  match op with
  | .add => decide (2 ^ 32 ≤ a.toNat + b.toNat)
  | .adc => decide (2 ^ 32 ≤ a.toNat + b.toNat + c.toNat)
  | .sub => decide (b.toNat ≤ a.toNat)
  | .rsb => decide (a.toNat ≤ b.toNat)
  | .sbc => decide (b.toNat + (!c).toNat ≤ a.toNat)
  | .rsc => decide (a.toNat + (!c).toNat ≤ b.toNat)
  | _ => shifterCarry

/-- The exact signed result of the arithmetic operations; none for the logical ones. -/
def DpOp.signed (op : DpOp) (a b : Word) (c : Bool) : Option Int :=
  match op with
  | .add => some (a.toInt + b.toInt)
  | .adc => some (a.toInt + b.toInt + (c.toNat : Int))
  | .sub => some (a.toInt - b.toInt)
  | .rsb => some (b.toInt - a.toInt)
  | .sbc => some (a.toInt - b.toInt - ((!c).toNat : Int))
  | .rsc => some (b.toInt - a.toInt - ((!c).toNat : Int))
  | _ => none

/-- The new V: the exact signed result is not the result read as signed (R150, R151); a logical operation keeps V (R152). -/
def DpOp.newV (op : DpOp) (a b : Word) (c v : Bool) : Bool :=
  match op.signed a b c with
  | some x => decide (x ≠ (op.result a b c).toInt)
  | none => v

/-- The operation whose flags a comparison sets (R166 to R169). -/
def CmpOp.op : CmpOp → DpOp
  | .tst => .and
  | .teq => .eor
  | .cmp => .sub
  | .cmn => .add

/-- The CPSR with the flags of an operation (R148). -/
def DpOp.flags (op : DpOp) (a : Word) (b : Operand) (p : Psr) : Psr :=
  { p with
    n := (op.result a b.value p.c).getLsbD 31
    z := decide (op.result a b.value p.c = 0)
    c := op.newC a b.value p.c b.carry
    v := op.newV a b.value p.c p.v }

/-! ### Long multiplies -/

/-- The four long multiplies. -/
inductive LongOp where
  | umull | umlal | smull | smlal
  deriving DecidableEq, Repr

/-- The instruction. -/
def LongOp.instr (op : LongOp) (c : Cond) (flags : Bool) (rdHi rdLo rs rm : RegNum) : Instr :=
  match op with
  | .umull => .umull c flags rdHi rdLo rs rm
  | .umlal => .umlal c flags rdHi rdLo rs rm
  | .smull => .smull c flags rdHi rdLo rs rm
  | .smlal => .smlal c flags rdHi rdLo rs rm

/-- The exact number whose low 64 bits the instruction writes (R195 to R198). -/
def LongOp.exact (op : LongOp) (m r hi lo : Word) : Int :=
  match op with
  | .umull => (m.toNat : Int) * r.toNat
  | .umlal => (m.toNat : Int) * r.toNat + ((hi.toNat : Int) * 2 ^ 32 + lo.toNat)
  | .smull => m.toInt * r.toInt
  | .smlal => m.toInt * r.toInt + (hi.toInt * 2 ^ 32 + lo.toNat)

/-! ### Single transfers -/

/-- The address modes of word and byte transfers (`43_load_store.md` R202, R214): pre-indexed with or without write-back,
post-indexed, and the user-privilege form. -/
inductive SdtMode where
  | pre (w : Bool)
  | post
  | user
  deriving DecidableEq, Repr

/-- The offset of a transfer (R201): an immediate, or a register with an immediate shift. -/
inductive Off where
  | imm (offset12 : BitVec 12)
  | reg (amount : BitVec 5) (shift : ShiftKind) (rm : RegNum)
  deriving DecidableEq, Repr

/-- The offset of a halfword or signed transfer (R201): an immediate, or a register. -/
inductive HalfOff where
  | imm (offset8 : BitVec 8)
  | reg (rm : RegNum)
  deriving DecidableEq, Repr

/-- The halfword and signed transfers. -/
inductive HalfOp where
  | strh | ldrh | ldrsb | ldrsh
  deriving DecidableEq, Repr

/-- One of the 32 single transfers: a word or byte (`byte`), loaded or stored (`load`), or a halfword or signed datum with the
bits P and W. -/
inductive Single where
  | plain (load byte : Bool) (mode : SdtMode) (o : Off)
  | half (op : HalfOp) (p w : Bool) (o : HalfOff)
  deriving DecidableEq, Repr

/-- The instruction of a single transfer. -/
def Single.instr (x : Single) (c : Cond) (u : Bool) (rn rd : RegNum) : Instr :=
  match x with
  | .plain false false (.pre w) (.imm off) => .strPreImm c u w rn rd off
  | .plain false false .post (.imm off) => .strPostImm c u rn rd off
  | .plain false false .user (.imm off) => .strtImm c u rn rd off
  | .plain false false (.pre w) (.reg n k rm) => .strPreReg c u w rn rd n k rm
  | .plain false false .post (.reg n k rm) => .strPostReg c u rn rd n k rm
  | .plain false false .user (.reg n k rm) => .strtReg c u rn rd n k rm
  | .plain true false (.pre w) (.imm off) => .ldrPreImm c u w rn rd off
  | .plain true false .post (.imm off) => .ldrPostImm c u rn rd off
  | .plain true false .user (.imm off) => .ldrtImm c u rn rd off
  | .plain true false (.pre w) (.reg n k rm) => .ldrPreReg c u w rn rd n k rm
  | .plain true false .post (.reg n k rm) => .ldrPostReg c u rn rd n k rm
  | .plain true false .user (.reg n k rm) => .ldrtReg c u rn rd n k rm
  | .plain false true (.pre w) (.imm off) => .strbPreImm c u w rn rd off
  | .plain false true .post (.imm off) => .strbPostImm c u rn rd off
  | .plain false true .user (.imm off) => .strbtImm c u rn rd off
  | .plain false true (.pre w) (.reg n k rm) => .strbPreReg c u w rn rd n k rm
  | .plain false true .post (.reg n k rm) => .strbPostReg c u rn rd n k rm
  | .plain false true .user (.reg n k rm) => .strbtReg c u rn rd n k rm
  | .plain true true (.pre w) (.imm off) => .ldrbPreImm c u w rn rd off
  | .plain true true .post (.imm off) => .ldrbPostImm c u rn rd off
  | .plain true true .user (.imm off) => .ldrbtImm c u rn rd off
  | .plain true true (.pre w) (.reg n k rm) => .ldrbPreReg c u w rn rd n k rm
  | .plain true true .post (.reg n k rm) => .ldrbPostReg c u rn rd n k rm
  | .plain true true .user (.reg n k rm) => .ldrbtReg c u rn rd n k rm
  | .half .strh p w (.imm off) => .strhImm c p u w rn rd off
  | .half .strh p w (.reg rm) => .strhReg c p u w rn rd rm
  | .half .ldrh p w (.imm off) => .ldrhImm c p u w rn rd off
  | .half .ldrh p w (.reg rm) => .ldrhReg c p u w rn rd rm
  | .half .ldrsb p w (.imm off) => .ldrsbImm c p u w rn rd off
  | .half .ldrsb p w (.reg rm) => .ldrsbReg c p u w rn rd rm
  | .half .ldrsh p w (.imm off) => .ldrshImm c p u w rn rd off
  | .half .ldrsh p w (.reg rm) => .ldrshReg c p u w rn rd rm

/-- Whether it loads. -/
def Single.isLoad : Single → Bool
  | .plain load _ _ _ => load
  | .half .strh _ _ _ => false
  | .half _ _ _ _ => true

/-- The width of the access. -/
def Single.size : Single → Size
  | .plain _ byte _ _ => if byte then .byte else .word
  | .half .ldrsb _ _ _ => .byte
  | .half _ _ _ _ => .half

/-- The register of a register offset. -/
def Single.offsetRegs : Single → List RegNum
  | .plain _ _ _ (.imm _) => []
  | .plain _ _ _ (.reg _ _ rm) => [rm]
  | .half _ _ _ (.imm _) => []
  | .half _ _ _ (.reg rm) => [rm]

/-- The offset (R201). -/
def Single.offset (x : Single) (s : State) : Word :=
  match x with
  | .plain _ _ _ (.imm off) => off.setWidth 32
  | .plain _ _ _ (.reg amount shift rm) => (s.shiOp amount shift rm).value
  | .half _ _ _ (.imm off) => off.setWidth 32
  | .half _ _ _ (.reg rm) => s.readReg rm

/-- Pre-indexed (P = 1). -/
def Single.pre : Single → Bool
  | .plain _ _ (.pre _) _ => true
  | .plain _ _ _ _ => false
  | .half _ p _ _ => p

/-- The base is written back: always when post-indexed, with W when pre-indexed (R202). -/
def Single.writesBack : Single → Bool
  | .plain _ _ (.pre w) _ => w
  | .plain _ _ _ _ => true
  | .half _ p w _ => !p || w

/-- `base + signed_off` (R201). -/
def Single.moved (x : Single) (u : Bool) (rn : RegNum) (s : State) : Word :=
  if u then s.readReg rn + x.offset s else s.readReg rn - x.offset s

/-- The address of the transfer (R202). -/
def Single.address (x : Single) (u : Bool) (rn : RegNum) (s : State) : Word :=
  if x.pre then x.moved u rn s else s.readReg rn

/-- The registers after the base write-back (R202). -/
def Single.baseRegs (x : Single) (u : Bool) (rn : RegNum) (s : State) : Regs :=
  if x.writesBack then s.regs.write s.cpsr.m rn (x.moved u rn s) else s.regs

/-- The privilege presented to the abort oracle: the mode's, but the user's for a T form (R214). -/
def Single.privilege (x : Single) (s : State) : Bool :=
  match x with
  | .plain _ _ .user _ => false
  | _ => s.privileged

/-- The register value of a loaded datum, given zero-extended (R210, R212, R215, R216). -/
def Single.extend (x : Single) (v : Word) : Word :=
  match x with
  | .half .ldrsb _ _ _ => (v.setWidth 8).signExtend 32
  | .half .ldrsh _ _ _ => (v.setWidth 16).signExtend 32
  | _ => v

/-! ### Block transfers -/

/-- LDM of a mode. -/
def ldm (k : BlockMode) (c : Cond) (caret w : Bool) (rn : RegNum) (list : BitVec 16) : Instr :=
  match k with
  | .ia => .ldmia c caret w rn list
  | .ib => .ldmib c caret w rn list
  | .da => .ldmda c caret w rn list
  | .db => .ldmdb c caret w rn list

/-- STM of a mode. -/
def stm (k : BlockMode) (c : Cond) (caret w : Bool) (rn : RegNum) (list : BitVec 16) : Instr :=
  match k with
  | .ia => .stmia c caret w rn list
  | .ib => .stmib c caret w rn list
  | .da => .stmda c caret w rn list
  | .db => .stmdb c caret w rn list

/-- The registers of a list, lowest number first (`30_encoding.md` R115). -/
def listed (list : BitVec 16) : List RegNum :=
  ([0, 1, 2, 3, 4, 5, 6, 7, 8, 9, 10, 11, 12, 13, 14, 15] : List RegNum).filter fun r => list.getLsbD r.toNat

/-- Four times the number n of registers in the list (`44_load_store_multiple.md` R232). -/
def listBytes (list : BitVec 16) : Word := BitVec.ofNat 32 (4 * (listed list).length)

/-- The address of the first access (the table of R232). -/
def blockStart (k : BlockMode) (base : Word) (list : BitVec 16) : Word :=
  match k with
  | .ia => base
  | .ib => base + 4
  | .da => base - listBytes list + 4
  | .db => base - listBytes list

/-- The write-back value (the table of R232). -/
def blockFinal (k : BlockMode) (base : Word) (list : BitVec 16) : Word :=
  match k with
  | .ia | .ib => base + listBytes list
  | .da | .db => base - listBytes list

/-- The address of access number `j` (R232). -/
def blockAddress (k : BlockMode) (base : Word) (list : BitVec 16) (j : Nat) : Word :=
  blockStart k base list + BitVec.ofNat 32 (4 * j)

/-- The registers with a list of words loaded, in the bank that `m` selects; R15 has no cell (R234). -/
def loadRegs (m : BitVec 5) (pairs : List (RegNum × Word)) (g : Regs) : Regs :=
  pairs.foldl (fun g e => g.write m e.1 e.2) g

/-- The base written back with `!` (R232). -/
def blockBase (w : Bool) (m : BitVec 5) (rn : RegNum) (final : Word) (g : Regs) : Regs :=
  if w then g.write m rn final else g

/-- The registers of the current bank that a block transfer names: with `^` and no R15 the list is the User bank's (R238, R239). -/
def blockNamed (caret : Bool) (rn : RegNum) (list : BitVec 16) : List RegNum :=
  if caret && !list.getLsbD 15 then [rn] else rn :: listed list

/-- Every word of an LDM can be read: aligned, not aborting, with a value, and these are the values (R234). -/
def blockReads (s : State) (k : BlockMode) (rn : RegNum) (list : BitVec 16) (vals : List Word) : Prop :=
  vals.length = (listed list).length ∧
    ∀ j (h : j < vals.length), s.memRead s.privileged .word (blockAddress k (s.readReg rn) list j) = .ok vals[j]

/-- No access of an STM to the addresses of a list aborts. -/
def blockWrites (s : State) (k : BlockMode) (rn : RegNum) (list : BitVec 16) : Prop :=
  ∀ j, j < (listed list).length → s.aborts (blockAddress k (s.readReg rn) list j) 4 .write s.privileged = false

/-! ### Status registers and exceptions -/

/-- A status register as a number, by the bit positions of `10_state.md` R41; bits [27:8] read as zero (R45). -/
def psrWord (p : Psr) : Word :=
  BitVec.ofNat 32 (p.n.toNat * 2 ^ 31 + p.z.toNat * 2 ^ 30 + p.c.toNat * 2 ^ 29 + p.v.toNat * 2 ^ 28 +
    p.i.toNat * 2 ^ 7 + p.f.toNat * 2 ^ 6 + p.t.toNat * 2 ^ 5 + p.m.toNat)

/-- The source operand of MSR. -/
inductive MsrSource where
  | reg (rm : RegNum)
  | imm (rotate : BitVec 4) (imm8 : BitVec 8)
  deriving DecidableEq, Repr

/-- MSR of a source. -/
def MsrSource.instr (x : MsrSource) (c : Cond) (spsr : Bool) (mask : BitVec 4) : Instr :=
  match x with
  | .reg rm => .msrReg c spsr mask rm
  | .imm rotate imm8 => .msrImm c spsr mask rotate imm8

/-- The value MSR writes (`48_status_register.md` R272, R274). -/
def MsrSource.value (x : MsrSource) (s : State) : Word :=
  match x with
  | .reg rm => s.readReg rm
  | .imm rotate imm8 => (imm8.setWidth 32).rotateRight (2 * rotate.toNat)

/-- The register of the source. -/
def MsrSource.regs : MsrSource → List RegNum
  | .reg rm => [rm]
  | .imm _ _ => []

/-- The seven encodings of M[4:0] (`10_state.md` R44). -/
def modeFields : List (BitVec 5) := [0b10000, 0b10001, 0b10010, 0b10011, 0b10111, 0b11011, 0b11111]

/-- A status register with the fields that f (`flags`) and c (`control`) select, taken from a word (R273). -/
def maskedPsr (p : Psr) (flags control : Bool) (v : Word) : Psr :=
  { n := if flags then v.getLsbD 31 else p.n
    z := if flags then v.getLsbD 30 else p.z
    c := if flags then v.getLsbD 29 else p.c
    v := if flags then v.getLsbD 28 else p.v
    i := if control then v.getLsbD 7 else p.i
    f := if control then v.getLsbD 6 else p.f
    t := if control then v.getLsbD 5 else p.t
    m := if control then v.setWidth 5 else p.m }

/-- R14 of the mode an exception enters (`60_exceptions.md` R300, R310). -/
def linkReg : Exc → PhysReg
  | .reset => .r14Svc
  | .undefined => .r14Und
  | .swi => .r14Svc
  | .prefetchAbort => .r14Abt
  | .dataAbort => .r14Abt
  | .irq => .r14Irq
  | .fiq => .r14Fiq

/-- The SPSR of the mode an exception enters. -/
def savedPsr (s : State) : Exc → Psr
  | .reset => s.spsrSvc
  | .undefined => s.spsrUnd
  | .swi => s.spsrSvc
  | .prefetchAbort => s.spsrAbt
  | .dataAbort => s.spsrAbt
  | .irq => s.spsrIrq
  | .fiq => s.spsrFiq

/-- The exception row: M[4:0] of the mode, and the vector (R300). -/
def excRow : Exc → BitVec 5 × Word
  | .reset => (0b10011, 0x00000000)
  | .undefined => (0b11011, 0x00000004)
  | .swi => (0b10011, 0x00000008)
  | .prefetchAbort => (0b10111, 0x0000000C)
  | .dataAbort => (0b10111, 0x00000010)
  | .irq => (0b10010, 0x00000018)
  | .fiq => (0b10001, 0x0000001C)

/-- What R14 receives (R311). -/
def linkValue (e : Exc) (pc : Word) : Word := if e = .dataAbort then pc + 8 else pc + 4

/-- The instruction with which a handler returns (R311): MOVS pc, lr after SWI and an undefined instruction; SUBS pc, lr, #4
after IRQ, FIQ and a prefetch abort; SUBS pc, lr, #8 after a data abort. -/
def returnInstr : Exc → Instr
  | .swi | .undefined => .movShi .al true 0 15 0 .lsl 14
  | .dataAbort => .subImm .al true 14 15 0 8
  | _ => .subImm .al true 14 15 0 4

/-- Where the interrupted program goes on (R311): after the instruction for SWI and an undefined one, at it otherwise. -/
def resumeAt (e : Exc) (pc : Word) : Word :=
  match e with
  | .swi | .undefined => pc + 4
  | _ => pc

/-- The coprocessor instructions (`49_coprocessor_undefined.md` R280) and the number of their coprocessor. -/
def coprocessorOf : Instr → Option (BitVec 4)
  | .ldc _ _ _ _ _ _ _ cp _ => some cp
  | .stc _ _ _ _ _ _ _ cp _ => some cp
  | .cdp _ _ _ _ cp _ _ => some cp
  | .mcr _ _ _ _ cp _ _ => some cp
  | .mrc _ _ _ _ cp _ _ => some cp
  | _ => none

/-- The registers that an instruction names, by its group; the instructions that name none are left out. -/
def Names (i : Instr) (named : List RegNum) : Prop :=
  (∃ op o c flags rn rd, i = DpOp.instr op o c flags rn rd ∧ named = op.regs o rn rd) ∨
    (∃ op o c rn sbz, i = CmpOp.instr op o c rn sbz ∧ named = rn :: o.regs) ∨
    (∃ c flags rd sbz rs rm, i = .mul c flags rd sbz rs rm ∧ named = [rd, rm, rs]) ∨
    (∃ c flags rd rn rs rm, i = .mla c flags rd rn rs rm ∧ named = [rd, rm, rs, rn]) ∨
    (∃ op c flags rdHi rdLo rs rm, i = LongOp.instr op c flags rdHi rdLo rs rm ∧ named = [rdHi, rdLo, rs, rm]) ∨
    (∃ x c u rn rd, i = Single.instr x c u rn rd ∧ named = rn :: rd :: x.offsetRegs) ∨
    (∃ k c caret w rn list, (i = ldm k c caret w rn list ∨ i = stm k c caret w rn list) ∧
      named = blockNamed caret rn list) ∨
    (∃ c rn rd rm, (i = .swp c rn rd rm ∨ i = .swpb c rn rd rm) ∧ named = [rn, rd, rm]) ∨
    (∃ c rm, i = .bx c rm ∧ named = [rm]) ∨
    (∃ c imm24, i = .bl c imm24 ∧ named = [14]) ∨
    (∃ c spsr rd, i = .mrs c spsr rd ∧ named = [rd]) ∨
    ∃ x c spsr mask, i = MsrSource.instr x c spsr mask ∧ named = x.regs

/-! ### What an instruction may change -/

/-- The instructions that may write the PC other than by going on or by an exception (`10_state.md` R31): a result or a load into
R15, and the branches. -/
def mayWritePc : Instr → Bool
  | .b _ _ => true
  | .bl _ _ => true
  | .bx _ _ => true
  | .ldmia _ _ _ _ list => list.getLsbD 15
  | .ldmib _ _ _ _ list => list.getLsbD 15
  | .ldmda _ _ _ _ list => list.getLsbD 15
  | .ldmdb _ _ _ _ list => list.getLsbD 15
  | .ldrPreImm _ _ _ _ rd _ => rd == 15
  | .ldrPostImm _ _ _ rd _ => rd == 15
  | .ldrPreReg _ _ _ _ rd _ _ _ => rd == 15
  | .ldrPostReg _ _ _ rd _ _ _ => rd == 15
  | .andImm _ _ _ rd _ _ => rd == 15
  | .andShi _ _ _ rd _ _ _ => rd == 15
  | .eorImm _ _ _ rd _ _ => rd == 15
  | .eorShi _ _ _ rd _ _ _ => rd == 15
  | .subImm _ _ _ rd _ _ => rd == 15
  | .subShi _ _ _ rd _ _ _ => rd == 15
  | .rsbImm _ _ _ rd _ _ => rd == 15
  | .rsbShi _ _ _ rd _ _ _ => rd == 15
  | .addImm _ _ _ rd _ _ => rd == 15
  | .addShi _ _ _ rd _ _ _ => rd == 15
  | .adcImm _ _ _ rd _ _ => rd == 15
  | .adcShi _ _ _ rd _ _ _ => rd == 15
  | .sbcImm _ _ _ rd _ _ => rd == 15
  | .sbcShi _ _ _ rd _ _ _ => rd == 15
  | .rscImm _ _ _ rd _ _ => rd == 15
  | .rscShi _ _ _ rd _ _ _ => rd == 15
  | .orrImm _ _ _ rd _ _ => rd == 15
  | .orrShi _ _ _ rd _ _ _ => rd == 15
  | .movImm _ _ _ rd _ _ => rd == 15
  | .movShi _ _ _ rd _ _ _ => rd == 15
  | .bicImm _ _ _ rd _ _ => rd == 15
  | .bicShi _ _ _ rd _ _ _ => rd == 15
  | .mvnImm _ _ _ rd _ _ => rd == 15
  | .mvnShi _ _ _ rd _ _ _ => rd == 15
  | _ => false

/-- The instructions that may write N, Z, C, V (`10_state.md` R37): data processing and multiplies with S, the comparisons, MSR to
the flags of the CPSR, and LDM with `^` and R15 (an SPSR copy). -/
def mayWriteFlags : Instr → Bool
  | .andImm _ s _ _ _ _ => s
  | .andShi _ s _ _ _ _ _ => s
  | .andShr _ s _ _ _ _ _ => s
  | .eorImm _ s _ _ _ _ => s
  | .eorShi _ s _ _ _ _ _ => s
  | .eorShr _ s _ _ _ _ _ => s
  | .subImm _ s _ _ _ _ => s
  | .subShi _ s _ _ _ _ _ => s
  | .subShr _ s _ _ _ _ _ => s
  | .rsbImm _ s _ _ _ _ => s
  | .rsbShi _ s _ _ _ _ _ => s
  | .rsbShr _ s _ _ _ _ _ => s
  | .addImm _ s _ _ _ _ => s
  | .addShi _ s _ _ _ _ _ => s
  | .addShr _ s _ _ _ _ _ => s
  | .adcImm _ s _ _ _ _ => s
  | .adcShi _ s _ _ _ _ _ => s
  | .adcShr _ s _ _ _ _ _ => s
  | .sbcImm _ s _ _ _ _ => s
  | .sbcShi _ s _ _ _ _ _ => s
  | .sbcShr _ s _ _ _ _ _ => s
  | .rscImm _ s _ _ _ _ => s
  | .rscShi _ s _ _ _ _ _ => s
  | .rscShr _ s _ _ _ _ _ => s
  | .tstImm _ _ _ _ _ => true
  | .tstShi _ _ _ _ _ _ => true
  | .tstShr _ _ _ _ _ _ => true
  | .teqImm _ _ _ _ _ => true
  | .teqShi _ _ _ _ _ _ => true
  | .teqShr _ _ _ _ _ _ => true
  | .cmpImm _ _ _ _ _ => true
  | .cmpShi _ _ _ _ _ _ => true
  | .cmpShr _ _ _ _ _ _ => true
  | .cmnImm _ _ _ _ _ => true
  | .cmnShi _ _ _ _ _ _ => true
  | .cmnShr _ _ _ _ _ _ => true
  | .orrImm _ s _ _ _ _ => s
  | .orrShi _ s _ _ _ _ _ => s
  | .orrShr _ s _ _ _ _ _ => s
  | .movImm _ s _ _ _ _ => s
  | .movShi _ s _ _ _ _ _ => s
  | .movShr _ s _ _ _ _ _ => s
  | .bicImm _ s _ _ _ _ => s
  | .bicShi _ s _ _ _ _ _ => s
  | .bicShr _ s _ _ _ _ _ => s
  | .mvnImm _ s _ _ _ _ => s
  | .mvnShi _ s _ _ _ _ _ => s
  | .mvnShr _ s _ _ _ _ _ => s
  | .mul _ s _ _ _ _ => s
  | .mla _ s _ _ _ _ => s
  | .umull _ s _ _ _ _ => s
  | .umlal _ s _ _ _ _ => s
  | .smull _ s _ _ _ _ => s
  | .smlal _ s _ _ _ _ => s
  | .msrReg _ spsr mask _ => !spsr && mask.getLsbD 3
  | .msrImm _ spsr mask _ _ => !spsr && mask.getLsbD 3
  | .ldmia _ s _ _ list => s && list.getLsbD 15
  | .ldmib _ s _ _ list => s && list.getLsbD 15
  | .ldmda _ s _ _ list => s && list.getLsbD 15
  | .ldmdb _ s _ _ list => s && list.getLsbD 15
  | _ => false

/-- The instructions that may write memory (`20_memory.md` R61): stores and swaps. -/
def mayWriteMemory : Instr → Bool
  | .swp _ _ _ _ => true
  | .swpb _ _ _ _ => true
  | .strhReg _ _ _ _ _ _ _ => true
  | .strhImm _ _ _ _ _ _ _ => true
  | .strPreImm _ _ _ _ _ _ => true
  | .strPostImm _ _ _ _ _ => true
  | .strtImm _ _ _ _ _ => true
  | .strPreReg _ _ _ _ _ _ _ _ => true
  | .strPostReg _ _ _ _ _ _ _ => true
  | .strtReg _ _ _ _ _ _ _ => true
  | .strbPreImm _ _ _ _ _ _ => true
  | .strbPostImm _ _ _ _ _ => true
  | .strbtImm _ _ _ _ _ => true
  | .strbPreReg _ _ _ _ _ _ _ _ => true
  | .strbPostReg _ _ _ _ _ _ _ => true
  | .strbtReg _ _ _ _ _ _ _ => true
  | .stmia _ _ _ _ _ => true
  | .stmib _ _ _ _ _ => true
  | .stmda _ _ _ _ _ => true
  | .stmdb _ _ _ _ _ => true
  | _ => false

/-- The cells that User mode cannot reach: every banked register of another mode (`10_state.md` R22). -/
def privilegedCells : List PhysReg :=
  [.r8Fiq, .r9Fiq, .r10Fiq, .r11Fiq, .r12Fiq, .r13Fiq, .r14Fiq, .r13Svc, .r14Svc, .r13Abt, .r14Abt, .r13Und, .r14Und,
    .r13Irq, .r14Irq]

end Sys2Proof.Claims

namespace Sys2Proof.Claims

open Sys2Proof.Machine

/-- What an instruction needs to be executed at all: its operand combination has a meaning (`Instr.wf`), its condition holds
(R131, `ConditionTable`), and no user-bank transfer just before it forbids a register it names (`70_reset_and_hazards.md`
R365). -/
def Ready (i : Instr) (named : List RegNum) (s : State) : Prop :=
  i.wf = true ∧ condPassed i.cond s.cpsr = true ∧ s.hazard named = false

/-- `ConditionPassed(cond)` in the pseudocode of `40_conditional_execution.md` R131. -/
def conditionHolds (cond : BitVec 4) (p : Psr) : Bool :=
  let r :=
    match (cond.extractLsb' 1 3).toNat with
    | 0 => p.z
    | 1 => p.c
    | 2 => p.n
    | 3 => p.v
    | 4 => p.c && !p.z
    | 5 => p.n == p.v
    | 6 => p.n == p.v && !p.z
    | _ => true
  if cond.getLsbD 0 && decide (cond ≠ 15) then !r else r

/-- The content of the register that the name Ri selects in a mode; R15 has no cell. -/
def cell (g : Regs) (m : BitVec 5) (i : RegNum) : Word :=
  match phys m i with
  | some p => g.get p
  | none => 0

/-- Two modes use one cell for Ri: the rows of the table of `10_state.md` R22. -/
def sharesCell (m k : Mode) (i : RegNum) : Bool :=
  decide (m = k) || decide (i.toNat < 8) || (decide (i.toNat < 13) && decide (m ≠ .fiq) && decide (k ≠ .fiq)) ||
    ((decide (m = .usr) || decide (m = .sys)) && (decide (k = .usr) || decide (k = .sys)))

/-- The low bits of a word that an access of a width keeps. -/
def lowBits (z : Size) (v : Word) : Word := BitVec.ofNat 32 (v.toNat % 2 ^ (8 * z.bytes))

/-- Byte `k` of a value of a width as memory holds it (`20_memory.md` R63). -/
def byteOf (z : Size) (bigEnd : Bool) (v : Word) (k : Nat) : Byte :=
  BitVec.ofNat 8 (v.toNat / 2 ^ (8 * (if bigEnd then z.bytes - 1 - k else k)))

/-- The step at this state takes no exception at the boundary and fetches at an aligned PC in ARM state: no unmasked request, and
no abort of the fetch (`60_exceptions.md` R305, `20_memory.md` R66). -/
def NothingDue (s : State) : Prop :=
  s.cpsr.t = false ∧ s.pcAligned = true ∧ (s.lines.headD Lines.idle).reset = false ∧
    ((s.lines.headD Lines.idle).fiq = true → s.cpsr.f = true) ∧
    ((s.lines.headD Lines.idle).irq = true → s.cpsr.i = true) ∧
    s.aborts s.pc 4 .fetch s.privileged = false

/-- The step at this state fetches the word `w` from memory: nothing is due at the boundary, and there is no record of a store that
the fetch may have missed (`20_memory.md` R79). -/
def Fetches (s : State) (w : Word) : Prop :=
  NothingDue s ∧ (∀ e ∈ s.stale, e.addr ≠ s.pc) ∧ s.wordAt s.pc = some w

/-- The state in which the fetched instruction runs: this boundary's sample of the lines is used up. -/
def afterSample (s : State) : State := { s with lines := s.lines.tail }

end Sys2Proof.Claims

open Sys2Proof Sys2Proof.Machine Sys2Proof.Claims

/-! ## Encoding -/

/-- Decoding an encoded instruction gives the instruction back, for every instruction and every value of its fields (the formats
R91 to R104 and the decoder R118). -/
def Obligations.DecodeEncode : Prop := ∀ i : Instr, decode (encode i) = .ok i

/-- A word that decodes is the encoding of what it decodes to: the decoder drops no bit. -/
def Obligations.EncodeDecode : Prop := ∀ (w : Word) (i : Instr), decode w = .ok i → encode i = w

/-- Words of the spec's worked examples decode to their instructions (`95_test_vectors.md` 1.2 to 1.18). -/
def Obligations.DecodeWorkedExamples : Prop :=
  decode 0xE0810002 = .ok (.addShi .al false 1 0 0 .lsl 2) ∧
    decode 0xD2754005 = .ok (.rsbImm .le true 5 4 0 5) ∧
    decode 0xE0855213 = .ok (.addShr .al false 5 5 2 .lsl 3) ∧
    decode 0xE0203291 = .ok (.mla .al false 0 3 2 1) ∧
    decode 0xE5B10004 = .ok (.ldrPreImm .al true true 1 0 4) ∧
    decode 0xE92D4003 = .ok (.stmdb .al false true 13 0x4003) ∧
    decode 0xE1021091 = .ok (.swp .al 2 1 1) ∧
    decode 0xEB00003E = .ok (.bl .al 0x3E) ∧
    decode 0xEF123456 = .ok (.swi .al 0x123456)

/-- A fetched word whose condition field is 1111 faults whatever its other bits, and an unallocated word faults where its condition
holds; neither raises an exception (R117, R121, and U2 of `93_implementation_defined.md`; `UnallocatedWordSkips` says what a failed
condition does). -/
def Obligations.UndecodableWordFaults : Prop :=
  ∀ (s : State) (w : Word), Fetches s w →
    (w.extractLsb' 28 4 = 15 → step s = .fault (.condition15 w)) ∧
      (decode w = .error (.unallocated w) → conditionHolds (w.extractLsb' 28 4) s.cpsr = true →
        step s = .fault (.unallocated w))

/-! ## The step -/

/-- When the bytes at the PC are the word of an instruction, and nothing is due at the boundary, a step is that instruction's
`exec` on the state with this boundary's sample used up (a list of samples is the model's form of the lines, log entry 6). -/
def Obligations.StepRunsDecoded : Prop :=
  ∀ (s : State) (w : Word) (i : Instr), Fetches s w → decode w = .ok i → step s = exec i (afterSample s)

/-- Every step keeps the invariant: the PC aligned, T = 0, the mode one of the seven, memory canonical. -/
def Obligations.StepKeepsInvariant : Prop := ∀ s t : State, s.inv = true → step s = .next t → t.inv = true

/-- The state after reset satisfies the invariant. -/
def Obligations.ResetHasInvariant : Prop := State.reset.inv = true

/-- After reset the PC is 0 and the mode is svc with IRQ and FIQ disabled, in ARM state (R35, R336, R54). -/
def Obligations.ResetValues : Prop :=
  State.reset.pc = 0x00000000 ∧ State.reset.cpsr.m = 0b10011 ∧ State.reset.cpsr.i = true ∧ State.reset.cpsr.f = true ∧
    State.reset.cpsr.t = false

/-- At an instruction boundary Reset comes before FIQ, FIQ before IRQ, IRQ before a prefetch abort, each interrupt only where its
mask is clear, and where nothing is due the lines have no effect (R304, R305). A list of samples is the model's form of the lines:
past its end no line is asserted (log entry 6). -/
def Obligations.BoundaryPriority : Prop :=
  ∀ (s : State) (l : Lines) (rest : List Lines), s.cpsr.t = false → l = s.lines.headD Lines.idle → rest = s.lines.tail →
    step s =
      if l.reset = true then .next (({ s with lines := rest } : State).takeException .reset)
      else if l.fiq = true ∧ s.cpsr.f = false then .next (({ s with lines := rest } : State).takeException .fiq)
      else if l.irq = true ∧ s.cpsr.i = false then .next (({ s with lines := rest } : State).takeException .irq)
      else if s.aborts s.pc 4 .fetch s.privileged = true then
        .next (({ s with lines := rest } : State).takeException .prefetchAbort)
      else step { s with lines := Lines.idle :: rest }

/-- A fetch returns the word in memory or, after a store to that word from which no PC write has come, an earlier word of it;
with no such store it returns the word in memory. A store to one of the two words that follow adds a record of that word as it was
before the store, and a store to any other word leaves no trace for a fetch. A step executes the word its fetch returns, in the
state whose records of that word are used up; the draws count them (R79; the records are the model's form of its free draw, log
entries 10 and 11; that the fetch of a word without a value faults is log entry 3). -/
def Obligations.FetchMayMissStore : Prop :=
  (∀ s : State, s.fetchedWord = s.wordAt s.pc ∨ ∃ e ∈ s.stale, e.addr = s.pc ∧ s.fetchedWord = e.old) ∧
    (∀ s : State, (∀ e ∈ s.stale, e.addr ≠ s.pc) → s.fetchedWord = s.wordAt s.pc) ∧
    (∀ (s : State) (z : Size) (a v : Word), a.toNat / 4 ≠ (s.pc + 4).toNat / 4 → a.toNat / 4 ≠ (s.pc + 8).toNat / 4 →
      (s.store z a v).stale = s.stale) ∧
    (∀ (s : State) (z : Size) (a v b : Word), s.pcAligned = true → b = BitVec.ofNat 32 (a.toNat / 4 * 4) →
      (b = s.pc + 4 ∨ b = s.pc + 8) → (s.store z a v).stale = s.stale ++ [{ addr := b, old := s.wordAt b }]) ∧
    (∀ (s : State) (v : Word) (t : State), s.branchTo v = .next t → t.stale = []) ∧
    ∀ s : State, NothingDue s →
      (s.fetchedWord = none → step s = .fault (.unwritten s.pc)) ∧
        ∀ (w : Word) (i : Instr), s.fetchedWord = some w → decode w = .ok i →
          step s =
            exec i
              { s with
                lines := s.lines.tail
                stale := s.stale.filter fun e => decide (e.addr ≠ s.pc)
                draws := s.draws + (s.stale.filter fun e => decide (e.addr = s.pc)).length }

/-- Only the word at the PC and the one after it can have been fetched ahead: a step keeps every record of a missed store at one
of the two (R53, R79; the records are the model's, log entry 11). -/
def Obligations.PrefetchRecordsBounded : Prop :=
  ∀ s t : State, s.prefetchInv = true → step s = .next t → t.prefetchInv = true

/-! ## Conditional execution -/

/-- The condition test is the pseudocode of R131, for every condition and every value of the flags. -/
def Obligations.ConditionTable : Prop := ∀ (c : Cond) (p : Psr), condPassed c p = conditionHolds c.bits p

/-- An instruction whose condition fails changes nothing and raises nothing: execution goes on at `pc + 4` (R132); past
0xFFFFFFFC there is no next instruction (R34). That it ends the hazard of R365 is log entry 13. -/
def Obligations.SkipWhenConditionFails : Prop :=
  ∀ (i : Instr) (s : State), condPassed i.cond s.cpsr = false →
    exec i s =
      if s.pc = 0xFFFFFFFC then .fault .pcWrap else .next { s with pc := s.pc + 4, afterUserBank := false }

/-- An operand combination that the spec makes UNPREDICTABLE faults when its condition holds, in every state (R16, and the rules of
`93_implementation_defined.md` section 2). -/
def Obligations.IllFormedFaults : Prop :=
  ∀ (i : Instr) (s : State), i.wf = false → condPassed i.cond s.cpsr = true → ∃ f, exec i s = .fault f

/-! ## Registers -/

/-- The bank table of R22: a register written in one mode reads back under a name of another mode exactly where the two names share
a cell, and every other name reads as before; R15 is in no mode's bank. -/
def Obligations.BankTable : Prop :=
  (∀ m : Mode, phys m.bits 15 = none) ∧
    ∀ (g : Regs) (m k : Mode) (i j : RegNum) (v : Word), i ≠ 15 → j ≠ 15 →
      cell (g.write m.bits i v) k.bits j = if i = j ∧ sharesCell m k i = true then v else cell g k.bits j

/-- `x[i]` and `x[i] <- v` in the current mode (R12, R32, R33): R15 reads as `pc + 8`, a write of it drops bits [1:0]; a write of
any other register is read back under its name, and nothing else of the state changes: no other name, and no register of a bank
that is not in use. -/
def Obligations.RegisterAccess : Prop :=
  ∀ (s : State) (v : Word),
    s.readReg 15 = s.pc + 8 ∧ s.writeReg 15 v = { s with pc := BitVec.ofNat 32 (v.toNat / 4 * 4) } ∧
      ∀ i : RegNum, i ≠ 15 →
        s.writeReg i v = { s with regs := (s.writeReg i v).regs } ∧
          (∀ j : RegNum, (s.writeReg i v).readReg j = if j = i then v else s.readReg j) ∧
          ∀ q : PhysReg, phys s.cpsr.m i ≠ some q → (s.writeReg i v).regs.get q = s.regs.get q

/-! ## The second operand -/

/-- The immediate operand: imm8 rotated right by twice the rotate field; the carry-out is C for rotate 0, else bit 31 (R142). -/
def Obligations.RotatedImmediate : Prop :=
  ∀ (rotate : BitVec 4) (imm8 : BitVec 8) (c : Bool),
    (∀ i, i < 32 →
      (immOperand rotate imm8 c).value.getLsbD i = (imm8.setWidth 32).getLsbD ((i + 2 * rotate.toNat) % 32)) ∧
      (immOperand rotate imm8 c).carry = if rotate = 0 then c else (immOperand rotate imm8 c).value.getLsbD 31

/-- A register shifted by an immediate, bit by bit, with its carry-out (the table of R143; amount 0 is LSL #0, LSR #32, ASR #32
and RRX). -/
def Obligations.ShiftByImmediate : Prop :=
  ∀ (m : Word) (n : BitVec 5) (c : Bool),
    (∀ i, i < 32 →
      (shiftByImm .lsl m n c).value.getLsbD i = (decide (n.toNat ≤ i) && m.getLsbD (i - n.toNat)) ∧
        (shiftByImm .lsr m n c).value.getLsbD i = (decide (n ≠ 0) && m.getLsbD (i + n.toNat)) ∧
        (shiftByImm .asr m n c).value.getLsbD i =
          (if n ≠ 0 ∧ i + n.toNat < 32 then m.getLsbD (i + n.toNat) else m.getLsbD 31) ∧
        (shiftByImm .ror m n c).value.getLsbD i =
          (if n ≠ 0 then m.getLsbD ((i + n.toNat) % 32) else if i = 31 then c else m.getLsbD (i + 1))) ∧
      (shiftByImm .lsl m n c).carry = (if n = 0 then c else m.getLsbD (32 - n.toNat)) ∧
      (shiftByImm .lsr m n c).carry = (if n = 0 then m.getLsbD 31 else m.getLsbD (n.toNat - 1)) ∧
      (shiftByImm .asr m n c).carry = (if n = 0 then m.getLsbD 31 else m.getLsbD (n.toNat - 1)) ∧
      (shiftByImm .ror m n c).carry = if n = 0 then m.getLsbD 0 else m.getLsbD (n.toNat - 1)

/-- A register shifted by the bottom byte of a register, bit by bit, with its carry-out, for every amount from 0 to 255 (the table
of R144). -/
def Obligations.ShiftByRegister : Prop :=
  ∀ (k : ShiftKind) (m : Word) (n : BitVec 8) (c : Bool),
    (n = 0 → shiftByReg k m n c = { value := m, carry := c }) ∧
      (n ≠ 0 →
        (∀ i, i < 32 →
          (shiftByReg k m n c).value.getLsbD i =
            match k with
            | .lsl => decide (n.toNat ≤ i) && m.getLsbD (i - n.toNat)
            | .lsr => decide (i + n.toNat < 32) && m.getLsbD (i + n.toNat)
            | .asr => if i + n.toNat < 32 then m.getLsbD (i + n.toNat) else m.getLsbD 31
            | .ror => m.getLsbD ((i + n.toNat) % 32)) ∧
          (shiftByReg k m n c).carry =
            match k with
            | .lsl => decide (n.toNat ≤ 32) && m.getLsbD (32 - n.toNat)
            | .lsr => decide (n.toNat ≤ 32) && m.getLsbD (n.toNat - 1)
            | .asr => if n.toNat ≤ 32 then m.getLsbD (n.toNat - 1) else m.getLsbD 31
            | .ror => m.getLsbD ((n.toNat - 1) % 32))

/-! ## Data processing -/

/-- The twelve operations that write a result, in their three operand forms, with Rd other than R15: Rd receives the result, with
S the four flags are those of R150 to R152, and nothing else changes (R148). -/
def Obligations.DataProcessingResult : Prop :=
  ∀ (op : DpOp) (o : Op2) (c : Cond) (flags : Bool) (rn rd : RegNum) (s : State),
    Ready (op.instr o c flags rn rd) (op.regs o rn rd) s → rd ≠ 15 → s.pc ≠ 0xFFFFFFFC →
      exec (op.instr o c flags rn rd) s =
        .next
          { s with
            regs := s.regs.write s.cpsr.m rd (op.result (s.readReg rn) (o.eval s).value s.cpsr.c)
            cpsr := if flags then op.flags (s.readReg rn) (o.eval s) s.cpsr else s.cpsr
            pc := s.pc + 4
            afterUserBank := false }

/-- Rd = R15 without S: the result is the address of the next instruction, with bits [1:0] dropped; only the PC changes, and what
was fetched ahead is discarded (R149, R33). -/
def Obligations.DataProcessingBranch : Prop :=
  ∀ (op : DpOp) (o : Op2) (c : Cond) (rn : RegNum) (s : State),
    Ready (op.instr o c false rn 15) (op.regs o rn 15) s →
      exec (op.instr o c false rn 15) s =
        .next
          { s with
            pc := BitVec.ofNat 32 ((op.result (s.readReg rn) (o.eval s).value s.cpsr.c).toNat / 4 * 4)
            stale := []
            afterUserBank := false }

/-- Rd = R15 with S: the SPSR of the current mode goes to the CPSR and the result to the PC in one step. In usr and sys mode (no
SPSR) it faults; a saved T = 1 leaves the spec; a saved mode that is none of the seven faults (R149, R320). -/
def Obligations.DataProcessingReturn : Prop :=
  ∀ (op : DpOp) (o : Op2) (c : Cond) (rn : RegNum) (s : State),
    Ready (op.instr o c true rn 15) (op.regs o rn 15) s →
      exec (op.instr o c true rn 15) s =
        match s.spsr with
        | none => .fault .noSpsr
        | some p =>
          if p.t = true then .refused .thumbState
          else if p.m ∉ modeFields then .fault .invalidMode
          else
            .next
              { s with
                cpsr := p
                pc := BitVec.ofNat 32 ((op.result (s.readReg rn) (o.eval s).value s.cpsr.c).toNat / 4 * 4)
                stale := []
                afterUserBank := false }

/-- The four comparisons in their three operand forms write the flags and nothing else (R148, R166 to R169). -/
def Obligations.Comparison : Prop :=
  ∀ (op : CmpOp) (o : Op2) (c : Cond) (rn sbz : RegNum) (s : State),
    Ready (op.instr o c rn sbz) (rn :: o.regs) s → s.pc ≠ 0xFFFFFFFC →
      exec (op.instr o c rn sbz) s =
        .next
          { s with
            cpsr := op.op.flags (s.readReg rn) (o.eval s) s.cpsr
            pc := s.pc + 4
            afterUserBank := false }

/-! ## Multiply -/

/-- MUL and MLA write the low 32 bits of the product, or of the product plus Rn, to Rd; with S they write N and Z from the result, C
with some value, and keep V (R191, R192, R194). `draws`, the model's own, counts the free values (log entries 9 and 10). -/
def Obligations.MultiplyLow : Prop :=
  ∀ (accumulate : Bool) (c : Cond) (flags : Bool) (rd rn rs rm : RegNum) (s : State),
    Ready (if accumulate then .mla c flags rd rn rs rm else .mul c flags rd rn rs rm)
        (if accumulate then [rd, rm, rs, rn] else [rd, rm, rs]) s →
      s.pc ≠ 0xFFFFFFFC →
        ∃ (r : Word) (freeC : Bool),
          r = BitVec.ofNat 32 ((s.readReg rm).toNat * (s.readReg rs).toNat +
              if accumulate then (s.readReg rn).toNat else 0) ∧
            exec (if accumulate then .mla c flags rd rn rs rm else .mul c flags rd rn rs rm) s =
              .next
                { s with
                  regs := s.regs.write s.cpsr.m rd r
                  cpsr :=
                    if flags then { s.cpsr with n := r.getLsbD 31, z := decide (r = 0), c := freeC } else s.cpsr
                  pc := s.pc + 4
                  draws := s.draws + flags.toNat
                  afterUserBank := false }

/-- The long multiplies write the low 64 bits of the exact product or sum to RdHi and RdLo; with S they write N from bit 63, Z from
all 64 bits, and C and V with some values (R194 to R198; `draws`, the model's own, counts them, log entries 9 and 10). -/
def Obligations.MultiplyLong : Prop :=
  ∀ (op : LongOp) (c : Cond) (flags : Bool) (rdHi rdLo rs rm : RegNum) (s : State),
    Ready (op.instr c flags rdHi rdLo rs rm) [rdHi, rdLo, rs, rm] s → s.pc ≠ 0xFFFFFFFC →
      ∃ (hi lo : Word) (freeC freeV : Bool),
        lo = BitVec.ofInt 32 (op.exact (s.readReg rm) (s.readReg rs) (s.readReg rdHi) (s.readReg rdLo)) ∧
          hi = BitVec.ofInt 32 (op.exact (s.readReg rm) (s.readReg rs) (s.readReg rdHi) (s.readReg rdLo) / 2 ^ 32) ∧
          exec (op.instr c flags rdHi rdLo rs rm) s =
            .next
              { s with
                regs := (s.regs.write s.cpsr.m rdLo lo).write s.cpsr.m rdHi hi
                cpsr :=
                  if flags then
                    { s.cpsr with n := hi.getLsbD 31, z := decide (hi = 0 ∧ lo = 0), c := freeC, v := freeV }
                  else s.cpsr
                pc := s.pc + 4
                draws := s.draws + 2 * flags.toNat
                afterUserBank := false }

/-! ## Memory -/

/-- A store puts the bytes of the value at rising addresses in the platform's byte order, leaves every other byte alone, and a read
of the same width and address gives the stored bits back (R63, R75). -/
def Obligations.StoreThenRead : Prop :=
  ∀ (s : State) (z : Size) (a v : Word),
    (∀ k, k < z.bytes → (s.store z a v).byteAt (a + BitVec.ofNat 32 k) = some (byteOf z s.platform.bigEnd v k)) ∧
      (∀ x : Word, z.bytes ≤ (x - a).toNat → (s.store z a v).byteAt x = s.byteAt x) ∧
      (s.store z a v).valueAt z a = some (lowBits z v)

/-! ## Single transfers -/

/-- Every load of a single register: the datum at the address of R202 goes to Rd as R208, R210, R212, R215 and R216 say, after the
base write-back; for Rd = R15 (LDR only) it is a branch (R206). Memory, flags and every other register keep their values. -/
def Obligations.SingleLoad : Prop :=
  ∀ (x : Single) (c : Cond) (u : Bool) (rn rd : RegNum) (s : State) (v : Word),
    x.isLoad = true → Ready (x.instr c u rn rd) (rn :: rd :: x.offsetRegs) s →
      (x.address u rn s).toNat % x.size.bytes = 0 →
      s.aborts (x.address u rn s) x.size.bytes .read (x.privilege s) = false →
      s.valueAt x.size (x.address u rn s) = some v →
        (rd ≠ 15 → s.pc ≠ 0xFFFFFFFC →
          exec (x.instr c u rn rd) s =
            .next
              { s with
                regs := (x.baseRegs u rn s).write s.cpsr.m rd (x.extend v)
                pc := s.pc + 4
                afterUserBank := false }) ∧
          (rd = 15 →
            exec (x.instr c u rn rd) s =
              .next
                { s with
                  regs := x.baseRegs u rn s
                  pc := BitVec.ofNat 32 (v.toNat / 4 * 4)
                  stale := []
                  afterUserBank := false })

/-- Every store of a single register: the low bits of Rd, as it was before any write-back, stand at the address of R202; every byte
outside them, the flags and every register but a written-back base keep their values (R202, R209, R211, R213, R214). A store to
one of the two words that follow adds the record that `FetchMayMissStore` describes: the model's form of R79 (log entry 11). -/
def Obligations.SingleStore : Prop :=
  ∀ (x : Single) (c : Cond) (u : Bool) (rn rd : RegNum) (s : State),
    x.isLoad = false → Ready (x.instr c u rn rd) (rn :: rd :: x.offsetRegs) s →
      (x.address u rn s).toNat % x.size.bytes = 0 →
      s.aborts (x.address u rn s) x.size.bytes .write (x.privilege s) = false → s.pc ≠ 0xFFFFFFFC →
        ∃ t,
          exec (x.instr c u rn rd) s = .next t ∧
            t = { s with
                  mem := t.mem
                  stale := s.stale ++ s.missedBy (x.address u rn s)
                  regs := x.baseRegs u rn s
                  pc := s.pc + 4
                  afterUserBank := false } ∧
            t.valueAt x.size (x.address u rn s) = some (lowBits x.size (s.readReg rd)) ∧
            ∀ y : Word, x.size.bytes ≤ (y - x.address u rn s).toNat → t.byteAt y = s.byteAt y

/-- A single transfer at a misaligned address faults; an aligned load of bytes that nothing has written faults (R65, R207; that
such bytes have no value is the choice of D27 and log entry 3). -/
def Obligations.SingleTransferFaults : Prop :=
  ∀ (x : Single) (c : Cond) (u : Bool) (rn rd : RegNum) (s : State),
    Ready (x.instr c u rn rd) (rn :: rd :: x.offsetRegs) s →
      ((x.address u rn s).toNat % x.size.bytes ≠ 0 →
        exec (x.instr c u rn rd) s = .fault (.misaligned (x.address u rn s))) ∧
        (x.isLoad = true → (x.address u rn s).toNat % x.size.bytes = 0 →
          s.aborts (x.address u rn s) x.size.bytes .read (x.privilege s) = false →
          s.valueAt x.size (x.address u rn s) = none →
            exec (x.instr c u rn rd) s = .fault (.unwritten (x.address u rn s)))

/-- An aligned single transfer whose access aborts takes a data abort: Rd and memory are not written, and the base is written back
only under ABORT_BASE_MODEL `updated` (R207, R74, R310, R311). -/
def Obligations.SingleTransferAborts : Prop :=
  ∀ (x : Single) (c : Cond) (u : Bool) (rn rd : RegNum) (s : State),
    Ready (x.instr c u rn rd) (rn :: rd :: x.offsetRegs) s →
      (x.address u rn s).toNat % x.size.bytes = 0 →
      s.aborts (x.address u rn s) x.size.bytes (if x.isLoad then .read else .write) (x.privilege s) = true →
        exec (x.instr c u rn rd) s =
          .next
            { s with
              regs := (if s.platform.baseUpdated then x.baseRegs u rn s else s.regs).set .r14Abt (s.pc + 8)
              spsrAbt := s.cpsr
              cpsr := { s.cpsr with i := true, t := false, m := 0b10111 }
              pc := 0x00000010
              stale := []
              afterUserBank := false }

/-! ## Block transfers -/

/-- LDM without `^`, in its four modes: the listed registers receive the consecutive words from the first address on, the lowest
register the lowest word; the base receives the write-back value with `!`; R15 in the list is a branch (R232, R234). -/
def Obligations.LoadMultiple : Prop :=
  ∀ (k : BlockMode) (c : Cond) (w : Bool) (rn : RegNum) (list : BitVec 16) (s : State) (vals : List Word),
    Ready (ldm k c false w rn list) (rn :: listed list) s → blockReads s k rn list vals →
      (list.getLsbD 15 = false → s.pc ≠ 0xFFFFFFFC →
        exec (ldm k c false w rn list) s =
          .next
            { s with
              regs := blockBase w s.cpsr.m rn (blockFinal k (s.readReg rn) list)
                (loadRegs s.cpsr.m ((listed list).zip vals) s.regs)
              pc := s.pc + 4
              afterUserBank := false }) ∧
        ∀ v, list.getLsbD 15 = true → vals.getLast? = some v →
          exec (ldm k c false w rn list) s =
            .next
              { s with
                regs := blockBase w s.cpsr.m rn (blockFinal k (s.readReg rn) list)
                  (loadRegs s.cpsr.m ((listed list).zip vals) s.regs)
                pc := BitVec.ofNat 32 (v.toNat / 4 * 4)
                stale := []
                afterUserBank := false }

/-- LDM with `^` and R15 in the list is an exception return: the registers of the current mode, the base, the CPSR from the SPSR and
the PC; in usr mode and in sys mode it faults (R238, R320). -/
def Obligations.LoadMultipleReturn : Prop :=
  ∀ (k : BlockMode) (c : Cond) (w : Bool) (rn : RegNum) (list : BitVec 16) (s : State) (vals : List Word) (v : Word),
    Ready (ldm k c true w rn list) (rn :: listed list) s → list.getLsbD 15 = true →
      (s.privileged = false → exec (ldm k c true w rn list) s = .fault .userBankForm) ∧
        (s.privileged = true → s.spsr = none → exec (ldm k c true w rn list) s = .fault .noSpsr) ∧
        ∀ p, s.spsr = some p → blockReads s k rn list vals → vals.getLast? = some v →
          exec (ldm k c true w rn list) s =
            if p.t = true then .refused .thumbState
            else if p.m ∉ modeFields then .fault .invalidMode
            else
              .next
                { s with
                  regs := blockBase w s.cpsr.m rn (blockFinal k (s.readReg rn) list)
                    (loadRegs s.cpsr.m ((listed list).zip vals) s.regs)
                  cpsr := p
                  pc := BitVec.ofNat 32 (v.toNat / 4 * 4)
                  stale := []
                  afterUserBank := false }

/-- LDM with `^` and without R15 loads the User-bank registers from a privileged mode and leaves the CPSR alone; the next instruction
may not name a banked register (R238, R365). In usr mode it faults. -/
def Obligations.LoadMultipleUserBank : Prop :=
  ∀ (k : BlockMode) (c : Cond) (w : Bool) (rn : RegNum) (list : BitVec 16) (s : State) (vals : List Word),
    Ready (ldm k c true w rn list) [rn] s → list.getLsbD 15 = false →
      (s.privileged = false → exec (ldm k c true w rn list) s = .fault .userBankForm) ∧
        (s.privileged = true → blockReads s k rn list vals → s.pc ≠ 0xFFFFFFFC →
          exec (ldm k c true w rn list) s =
            .next
              { s with
                regs := loadRegs 0b10000 ((listed list).zip vals) s.regs
                pc := s.pc + 4
                afterUserBank := true })

/-- STM, plain and with `^`: the values the listed registers had before the instruction (the User bank's with `^`) stand at the
consecutive words, every other byte keeps its value, and the base receives the write-back value with `!` (R232, R235, R239). Each
word stored among the two that follow adds its record, in the order of the stores: the model's form of R79 (log entry 11). -/
def Obligations.StoreMultiple : Prop :=
  ∀ (k : BlockMode) (c : Cond) (caret w : Bool) (rn : RegNum) (list : BitVec 16) (s : State),
    Ready (stm k c caret w rn list) (if caret then [rn] else rn :: listed list) s →
      (caret = true → s.privileged = true) → (s.readReg rn).toNat % 4 = 0 → blockWrites s k rn list →
      s.pc ≠ 0xFFFFFFFC →
        ∃ t,
          exec (stm k c caret w rn list) s = .next t ∧
            t = { s with
                  mem := t.mem
                  stale := s.stale ++ (List.range (listed list).length).flatMap fun j =>
                    s.missedBy (blockAddress k (s.readReg rn) list j)
                  regs := blockBase w s.cpsr.m rn (blockFinal k (s.readReg rn) list) s.regs
                  pc := s.pc + 4
                  afterUserBank := caret } ∧
            (∀ j r, (listed list)[j]? = some r →
              t.wordAt (blockAddress k (s.readReg rn) list j) =
                some (if caret then cell s.regs 0b10000 r else s.readReg r)) ∧
            ∀ y : Word, 4 * (listed list).length ≤ (y - blockStart k (s.readReg rn) list).toNat →
              t.byteAt y = s.byteAt y

/-- LDM and STM from a base that is no multiple of 4 fault at their first access (R249, R65); an LDM faults at the first word that
cannot be read for another reason than an abort (D27, log entry 3); STM with `^` in usr mode faults (R239). -/
def Obligations.BlockTransferFaults : Prop :=
  ∀ (k : BlockMode) (c : Cond) (caret w : Bool) (rn : RegNum) (list : BitVec 16) (s : State),
    (Ready (ldm k c caret w rn list) (blockNamed caret rn list) s →
      (caret = true → s.privileged = true ∧ (list.getLsbD 15 = true → s.spsr ≠ none)) →
        ((s.readReg rn).toNat % 4 ≠ 0 →
          exec (ldm k c caret w rn list) s = .fault (.misaligned (blockStart k (s.readReg rn) list))) ∧
          ∀ (vals : List Word) (f : Fault), vals.length < (listed list).length →
            (∀ j (h : j < vals.length),
              s.memRead s.privileged .word (blockAddress k (s.readReg rn) list j) = .ok vals[j]) →
            s.memRead s.privileged .word (blockAddress k (s.readReg rn) list vals.length) = .fault f →
              exec (ldm k c caret w rn list) s = .fault f) ∧
      (Ready (stm k c caret w rn list) (blockNamed caret rn list) s →
        (caret = true → s.privileged = false → exec (stm k c caret w rn list) s = .fault .userBankForm) ∧
          ((caret = true → s.privileged = true) → (s.readReg rn).toNat % 4 ≠ 0 →
            exec (stm k c caret w rn list) s = .fault (.misaligned (blockStart k (s.readReg rn) list))))

/-- An LDM whose access number `vals.length` aborts takes a data abort. Each register read before it holds its old value or the
loaded one, by a free draw of the model (log entry 12); the base keeps its value under `restored`, takes the write-back value with
`!` under `updated`, and without `!` is under `updated` a register as the others; nothing else changes but by the entry (R249, R74).
That the entry leaves no hazard of R365 where the LDM is of the User bank is log entry 13. -/
def Obligations.LoadMultipleAborts : Prop :=
  ∀ (k : BlockMode) (c : Cond) (caret w : Bool) (rn : RegNum) (list : BitVec 16) (s : State) (vals : List Word),
    Ready (ldm k c caret w rn list) (blockNamed caret rn list) s →
      (caret = true → s.privileged = true ∧ (list.getLsbD 15 = true → s.spsr ≠ none)) →
      vals.length < (listed list).length →
      (∀ j (h : j < vals.length),
        s.memRead s.privileged .word (blockAddress k (s.readReg rn) list j) = .ok vals[j]) →
      s.memRead s.privileged .word (blockAddress k (s.readReg rn) list vals.length) = .abort →
        ∃ u : State,
          exec (ldm k c caret w rn list) s = .next (u.takeException .dataAbort) ∧
            u = { s with regs := u.regs, draws := s.draws + vals.length } ∧
            (s.platform.baseUpdated = false → u.readReg rn = s.readReg rn) ∧
            (s.platform.baseUpdated = true → w = true → u.readReg rn = blockFinal k (s.readReg rn) list) ∧
            ∀ q : PhysReg, phys s.cpsr.m rn ≠ some q ∨ (s.platform.baseUpdated = true ∧ w = false) →
              u.regs.get q = s.regs.get q ∨
                ∃ (j : Nat) (r : RegNum), (listed list)[j]? = some r ∧ vals[j]? = some (u.regs.get q) ∧
                  phys (if caret && !list.getLsbD 15 then 0b10000 else s.cpsr.m) r = some q

/-- An STM whose access number `n` aborts takes a data abort. The words before it are stored and no other byte changes; the base is
written back only under `updated` (R249, R74; that the earlier words stay is log entry 14, and that the entry leaves no hazard of
R365 where the STM is of the User bank is log entry 13). -/
def Obligations.StoreMultipleAborts : Prop :=
  ∀ (k : BlockMode) (c : Cond) (caret w : Bool) (rn : RegNum) (list : BitVec 16) (s : State) (n : Nat),
    Ready (stm k c caret w rn list) (if caret then [rn] else rn :: listed list) s →
      (caret = true → s.privileged = true) → (s.readReg rn).toNat % 4 = 0 → n < (listed list).length →
      (∀ j, j < n → s.aborts (blockAddress k (s.readReg rn) list j) 4 .write s.privileged = false) →
      s.aborts (blockAddress k (s.readReg rn) list n) 4 .write s.privileged = true →
        ∃ u : State,
          exec (stm k c caret w rn list) s = .next (u.takeException .dataAbort) ∧
            u = { s with
                  mem := u.mem
                  stale := u.stale
                  regs :=
                    if s.platform.baseUpdated then
                      blockBase w s.cpsr.m rn (blockFinal k (s.readReg rn) list) s.regs
                    else s.regs } ∧
            (∀ j r, j < n → (listed list)[j]? = some r →
              u.wordAt (blockAddress k (s.readReg rn) list j) =
                some (if caret then cell s.regs 0b10000 r else s.readReg r)) ∧
            ∀ y : Word, 4 * n ≤ (y - blockStart k (s.readReg rn) list).toNat → u.byteAt y = s.byteAt y

/-! ## Swap -/

/-- SWP and SWPB: Rd receives the datum at the address in Rn, and the low bits of Rm as it was before stand there; every other byte,
register and flag keeps its value (R251, R252). A swap with one of the two words that follow adds the record that
`FetchMayMissStore` describes: the model's form of R79 (log entry 11). -/
def Obligations.SwapExchanges : Prop :=
  ∀ (byte : Bool) (c : Cond) (rn rd rm : RegNum) (s : State) (z : Size) (v : Word),
    z = (if byte then .byte else .word) →
      Ready (if byte then .swpb c rn rd rm else .swp c rn rd rm) [rn, rd, rm] s →
      (s.readReg rn).toNat % z.bytes = 0 →
      s.aborts (s.readReg rn) z.bytes .read s.privileged = false →
      s.aborts (s.readReg rn) z.bytes .write s.privileged = false →
      s.valueAt z (s.readReg rn) = some v → s.pc ≠ 0xFFFFFFFC →
        ∃ t,
          exec (if byte then .swpb c rn rd rm else .swp c rn rd rm) s = .next t ∧
            t = { s with
                  mem := t.mem
                  stale := s.stale ++ s.missedBy (s.readReg rn)
                  regs := s.regs.write s.cpsr.m rd v
                  pc := s.pc + 4
                  afterUserBank := false } ∧
            t.valueAt z (s.readReg rn) = some (lowBits z (s.readReg rm)) ∧
            ∀ y : Word, z.bytes ≤ (y - s.readReg rn).toNat → t.byteAt y = s.byteAt y

/-- A swap whose read or write aborts takes a data abort with neither memory nor Rd changed (R251, R310, R311). -/
def Obligations.SwapAborts : Prop :=
  ∀ (byte : Bool) (c : Cond) (rn rd rm : RegNum) (s : State) (z : Size),
    z = (if byte then .byte else .word) →
      Ready (if byte then .swpb c rn rd rm else .swp c rn rd rm) [rn, rd, rm] s →
      (s.readReg rn).toNat % z.bytes = 0 →
      (s.aborts (s.readReg rn) z.bytes .read s.privileged = true ∨
        (s.aborts (s.readReg rn) z.bytes .write s.privileged = true ∧ s.valueAt z (s.readReg rn) ≠ none)) →
        exec (if byte then .swpb c rn rd rm else .swp c rn rd rm) s =
          .next
            { s with
              regs := s.regs.set .r14Abt (s.pc + 8)
              spsrAbt := s.cpsr
              cpsr := { s.cpsr with i := true, t := false, m := 0b10111 }
              pc := 0x00000010
              stale := []
              afterUserBank := false }

/-! ## Branches -/

/-- B and BL go to `pc + 8` plus four times the signed offset, modulo 2^32, which is aligned; BL writes the address of the next
instruction to R14 of the current mode; nothing else changes (R261, R262, R265). -/
def Obligations.BranchTarget : Prop :=
  ∀ (link : Bool) (c : Cond) (imm24 : BitVec 24) (s : State),
    Ready (if link then .bl c imm24 else .b c imm24) (if link then [14] else []) s → s.pcAligned = true →
      exec (if link then .bl c imm24 else .b c imm24) s =
        .next
          { s with
            pc := BitVec.ofInt 32 ((s.pc.toNat : Int) + 8 + 4 * imm24.toInt)
            regs := if link then s.regs.write s.cpsr.m 14 (s.pc + 4) else s.regs
            stale := []
            afterUserBank := false }

/-- BX to a word-aligned address branches there in ARM state; to an address with bit 0 set it would enter Thumb state, outside the
spec (refused, log entry 15); with bit 0 clear and bit 1 set it faults (R264). -/
def Obligations.BranchExchange : Prop :=
  ∀ (c : Cond) (rm : RegNum) (s : State), Ready (.bx c rm) [rm] s →
    ((s.readReg rm).toNat % 4 = 0 →
      exec (.bx c rm) s =
        .next
          { s with
            pc := s.readReg rm
            cpsr := { s.cpsr with t := false }
            stale := []
            afterUserBank := false }) ∧
      ((s.readReg rm).toNat % 2 = 1 → exec (.bx c rm) s = .refused .thumbState) ∧
      ((s.readReg rm).toNat % 4 = 2 → exec (.bx c rm) s = .fault .branchExchange)

/-! ## Status registers -/

/-- MRS writes the CPSR, or the SPSR of the current mode, to Rd by the layout of R41, bits [27:8] zero; a mode without an SPSR faults
(R271, R46). -/
def Obligations.MoveFromStatus : Prop :=
  ∀ (c : Cond) (spsr : Bool) (rd : RegNum) (s : State),
    Ready (.mrs c spsr rd) [rd] s → s.pc ≠ 0xFFFFFFFC →
      exec (.mrs c spsr rd) s =
        match if spsr then s.spsr else some s.cpsr with
        | none => .fault .noSpsr
        | some p =>
          .next
            { s with
              regs := s.regs.write s.cpsr.m rd (psrWord p)
              pc := s.pc + 4
              afterUserBank := false }

/-- MSR to the CPSR, from a register or an immediate: field f writes the flags in every mode; field c writes I, F, T and M in a
privileged mode, where a change of T and an illegal mode fault, and is ignored in usr mode; nothing else changes (R273). -/
def Obligations.MoveToCpsr : Prop :=
  ∀ (x : MsrSource) (c : Cond) (mask : BitVec 4) (s : State),
    Ready (x.instr c false mask) x.regs s → s.pc ≠ 0xFFFFFFFC →
      exec (x.instr c false mask) s =
        if (mask.getLsbD 0 && s.privileged) = true ∧ (x.value s).getLsbD 5 ≠ s.cpsr.t then .fault .msrThumb
        else if (mask.getLsbD 0 && s.privileged) = true ∧ (x.value s).setWidth 5 ∉ modeFields then .fault .invalidMode
        else
          .next
            { s with
              cpsr := maskedPsr s.cpsr (mask.getLsbD 3) (mask.getLsbD 0 && s.privileged) (x.value s)
              pc := s.pc + 4
              afterUserBank := false }

/-- MSR to the SPSR writes the selected fields of the SPSR of the current mode and nothing else; an illegal mode and a mode without an
SPSR fault (R273, R46). -/
def Obligations.MoveToSpsr : Prop :=
  ∀ (x : MsrSource) (c : Cond) (mask : BitVec 4) (s : State),
    Ready (x.instr c true mask) x.regs s → s.pc ≠ 0xFFFFFFFC →
      (s.spsr = none → exec (x.instr c true mask) s = .fault .noSpsr) ∧
        ∀ p, s.spsr = some p →
          (mask.getLsbD 0 = true → (x.value s).setWidth 5 ∉ modeFields →
            exec (x.instr c true mask) s = .fault .invalidMode) ∧
            ((mask.getLsbD 0 = true → (x.value s).setWidth 5 ∈ modeFields) →
              ∃ t,
                exec (x.instr c true mask) s = .next t ∧
                  t.spsr = some (maskedPsr p (mask.getLsbD 3) (mask.getLsbD 0) (x.value s)) ∧
                  t = { s with
                        spsrSvc := if s.cpsr.m = 0b10011 then t.spsrSvc else s.spsrSvc
                        spsrAbt := if s.cpsr.m = 0b10111 then t.spsrAbt else s.spsrAbt
                        spsrUnd := if s.cpsr.m = 0b11011 then t.spsrUnd else s.spsrUnd
                        spsrIrq := if s.cpsr.m = 0b10010 then t.spsrIrq else s.spsrIrq
                        spsrFiq := if s.cpsr.m = 0b10001 then t.spsrFiq else s.spsrFiq
                        pc := s.pc + 4
                        afterUserBank := false })

/-! ## Exceptions -/

/-- SWI enters svc mode through 0x00000008: SPSR_svc is the old CPSR, R14_svc the address of the next instruction, I is set, T
cleared, F and the flags kept; nothing else changes (R255, R256). That it does so also right after a user-bank transfer, although
it writes R14_svc, and ends the hazard of R365, is the model's choice (log entry 13). -/
def Obligations.SoftwareInterrupt : Prop :=
  ∀ (c : Cond) (number : BitVec 24) (s : State), condPassed c s.cpsr = true →
    exec (.swi c number) s =
      .next
        { s with
          spsrSvc := s.cpsr
          cpsr := { s.cpsr with m := 0b10011, i := true, t := false }
          regs := s.regs.set .r14Svc (s.pc + 4)
          pc := 0x00000008
          stale := []
          afterUserBank := false }

/-- A word of the Undefined format, and every coprocessor instruction whose coprocessor is absent, enters und mode through 0x00000004
and changes nothing else; a coprocessor that the platform declares present has no specification (R284, R285; log
entry 20). That it does so also right after a user-bank transfer, although it writes R14_und and whatever register
the Rn field of LDC and STC or the Rd field of MCR and MRC names, and that it ends the hazard of R365, is the model's choice (log
entry 13). -/
def Obligations.UndefinedInstruction : Prop :=
  ∀ (i : Instr) (s : State), condPassed i.cond s.cpsr = true →
    ((∃ c hi lo, i = .undefined c hi lo) ∨ (∃ cp, coprocessorOf i = some cp ∧ cp ∉ s.platform.coprocessors) →
      exec i s =
        .next
          { s with
            spsrUnd := s.cpsr
            cpsr := { s.cpsr with m := 0b11011, i := true, t := false }
            regs := s.regs.set .r14Und (s.pc + 4)
            pc := 0x00000004
            stale := []
            afterUserBank := false }) ∧
      ∀ cp, coprocessorOf i = some cp → cp ∈ s.platform.coprocessors →
        exec i s = .refused (.coprocessorUnspecified cp)

/-- Exception entry, for each of the seven: M of the exception's mode, I set, F set for fiq and Reset and kept otherwise, T cleared,
the PC at the vector. For all but Reset the old CPSR is in the SPSR of the mode entered, the return address of R311 in its R14, and
no other register, SPSR, flag or byte of memory changes (R300, R310, R311, R312). That the entry ends the hazard of R365 is the
model's choice (log entry 13). -/
def Obligations.ExceptionEntry : Prop :=
  ∀ (s : State) (e : Exc),
    (s.takeException e).cpsr.m = (excRow e).1 ∧ (s.takeException e).pc = (excRow e).2 ∧
      (s.takeException e).cpsr.i = true ∧ (s.takeException e).cpsr.t = false ∧
      ((e = .fiq ∨ e = .reset) → (s.takeException e).cpsr.f = true) ∧
      (e ≠ .reset →
        (s.takeException e).cpsr =
            { s.cpsr with i := true, f := s.cpsr.f || decide (e = .fiq), t := false, m := (excRow e).1 } ∧
          savedPsr (s.takeException e) e = s.cpsr ∧
          (∀ e', (excRow e').1 ≠ (excRow e).1 → savedPsr (s.takeException e) e' = savedPsr s e') ∧
          s.takeException e =
            { s with
              regs := s.regs.set (linkReg e) (linkValue e s.pc)
              cpsr := (s.takeException e).cpsr
              spsrSvc := (s.takeException e).spsrSvc
              spsrAbt := (s.takeException e).spsrAbt
              spsrUnd := (s.takeException e).spsrUnd
              spsrIrq := (s.takeException e).spsrIrq
              spsrFiq := (s.takeException e).spsrFiq
              pc := (excRow e).2
              stale := []
              afterUserBank := false })

/-- The return instruction of R311's last column, executed at once in the handler, resumes the interrupted program: its CPSR is back,
and the PC is at the instruction after an SWI or an undefined instruction and at the interrupted instruction otherwise. -/
def Obligations.ExceptionReturnResumes : Prop :=
  ∀ (s : State) (e : Exc), e ≠ .reset → s.inv = true →
    exec (returnInstr e) (s.takeException e) =
      .next { s.takeException e with cpsr := s.cpsr, pc := resumeAt e s.pc }

/-- A reset at a boundary leaves the values of R351 and keeps memory, which is the model's choice (log entry 7). -/
def Obligations.ResetAtBoundary : Prop :=
  ∀ (s : State) (l : Lines) (rest : List Lines), s.cpsr.t = false → s.lines = l :: rest → l.reset = true →
    ∃ t, step s = .next t ∧ t.pc = 0x00000000 ∧ t.cpsr.m = 0b10011 ∧ t.cpsr.i = true ∧ t.cpsr.f = true ∧
      t.cpsr.t = false ∧ t.stale = [] ∧ t.mem = s.mem

/-- The instruction right after a user-bank transfer faults if it names a banked register, whatever its family; the spec leaves
"an instruction that touches a banked register" to the model in BL, SWI and the coprocessor formats (R365, log entry 13). -/
def Obligations.UserBankHazardFaults : Prop :=
  ∀ (s : State) (i : Instr) (named : List RegNum), Names i named → i.wf = true → condPassed i.cond s.cpsr = true →
    s.afterUserBank = true → (∃ r ∈ named, phys s.cpsr.m r ≠ phys 0b10000 r) → exec i s = .fault .bankedAfterUserBank

/-! ## The whole machine -/

/-- A step that begins and ends in usr mode changes no banked register of another mode, no SPSR, and none of I, F, T and M (R47,
R331). -/
def Obligations.UserModeIsConfined : Prop :=
  ∀ s t : State, s.cpsr.m = 0b10000 → step s = .next t → t.cpsr.m = 0b10000 →
    (∀ q ∈ privilegedCells, t.regs.get q = s.regs.get q) ∧ t.spsrSvc = s.spsrSvc ∧ t.spsrAbt = s.spsrAbt ∧
      t.spsrUnd = s.spsrUnd ∧ t.spsrIrq = s.spsrIrq ∧ t.spsrFiq = s.spsrFiq ∧ t.cpsr.i = s.cpsr.i ∧
      t.cpsr.f = s.cpsr.f ∧ t.cpsr.t = s.cpsr.t

/-- usr mode can leave only by an exception: the new state is at an exception's vector, in its mode, and but for Reset the old CPSR
is in its SPSR (R332). -/
def Obligations.UserModeLeavesByException : Prop :=
  ∀ s t : State, s.cpsr.m = 0b10000 → step s = .next t → t.cpsr.m ≠ 0b10000 →
    ∃ e, t.pc = (excRow e).2 ∧ t.cpsr.m = (excRow e).1 ∧ t.cpsr.i = true ∧
      (e ≠ .reset → savedPsr t e = s.cpsr)

/-- The flags are written by the instructions R37 names and by no other. -/
def Obligations.FlagsWrittenOnlyByNamed : Prop :=
  ∀ (i : Instr) (s t : State), mayWriteFlags i = false → exec i s = .next t →
    t.cpsr.n = s.cpsr.n ∧ t.cpsr.z = s.cpsr.z ∧ t.cpsr.c = s.cpsr.c ∧ t.cpsr.v = s.cpsr.v

/-- No instruction but a store or a swap touches a byte of memory (R61), and none adds a record for a fetch to miss (log entry
11). -/
def Obligations.MemoryWrittenOnlyByStores : Prop :=
  ∀ (i : Instr) (s t : State), mayWriteMemory i = false → exec i s = .next t →
    t.mem = s.mem ∧ (t.stale = s.stale ∨ t.stale = [])

/-- An instruction that cannot write the PC goes on at `pc + 4`, or takes one of the exceptions that an instruction raises
(undefined, SWI, data abort); at 0xFFFFFFFC, past which there is no instruction, only the exception is left (R31, R34, R300). -/
def Obligations.PcAdvancesOrTraps : Prop :=
  ∀ (i : Instr) (s t : State), mayWritePc i = false → exec i s = .next t →
    (t.pc = s.pc + 4 ∧ s.pc ≠ 0xFFFFFFFC) ∨
      ∃ e ∈ [Exc.undefined, Exc.swi, Exc.dataAbort], t.pc = (excRow e).2 ∧ t.cpsr.m = (excRow e).1

/-- A step changes no parameter of the platform, the byte order among them, and uses up one sample of the lines (R62, R8; the
platform and the samples in the state are the model's form, log entries 5 and 6). -/
def Obligations.PlatformNeverChanges : Prop :=
  ∀ s t : State, step s = .next t → t.platform = s.platform ∧ t.lines = s.lines.tail

/-- A fetched word that is unallocated and whose condition fails is skipped like an instruction: the step goes on at `pc + 4`, raises
nothing and changes no register, flag or byte of memory; past 0xFFFFFFFC there is no next instruction (R132, R34, and U2 of
`93_implementation_defined.md`; this boundary's sample is used up, log entry 6, and the hazard of R365 ends, log entry 13). -/
def Obligations.UnallocatedWordSkips : Prop :=
  ∀ (s : State) (w : Word), Fetches s w → decode w = .error (.unallocated w) →
    conditionHolds (w.extractLsb' 28 4) s.cpsr = false →
      step s =
        if s.pc = 0xFFFFFFFC then .fault .pcWrap
        else .next { s with pc := s.pc + 4, lines := s.lines.tail, afterUserBank := false }
end

