-- ==== Sys2Proof/Laws/Bits.lean ====
section
/-! SUPPORT. Reading back what the encoder puts: a field or a bit of a word built from `put` and `putBit`. -/

namespace Sys2Proof


@[simp] theorem field_or (lo n) (a b : Word) : field lo n (a ||| b) = field lo n a ||| field lo n b := by
  simp [field, BitVec.extractLsb'_or]
@[simp] theorem bit_or (i) (a b : Word) : bit (a ||| b) i = (bit a i || bit b i) := by
  simp [bit]

theorem bit_put {n} (i lo) (x : BitVec n) :
    bit (put lo x) i = (decide (i < 32) && decide (lo ≤ i) && x.getLsbD (i - lo)) := by
  simp only [bit, put, BitVec.getLsbD_shiftLeft, BitVec.getLsbD_setWidth]
  by_cases h1 : i < 32
  · have h3 : i - lo < 32 := by omega
    by_cases h2 : lo ≤ i
    · have h4 : ¬ i < lo := by omega
      simp [h1, h2, h3, h4]
    · have h4 : i < lo := by omega
      simp [h1, h2, h4]
  · simp [h1]

theorem getLsbD_field (lo n) (w : Word) (i) : (field lo n w).getLsbD i = (decide (i < n) && bit w (lo + i)) := by
  simp [field, bit]

theorem field_put_same {n} (lo) (x : BitVec n) (h : lo + n ≤ 32) : field lo n (put lo x) = x := by
  apply BitVec.eq_of_getLsbD_eq
  intro i hi
  rw [getLsbD_field, bit_put]
  have : lo + i < 32 := by omega
  simp [this, hi]

theorem field_put_below {m} (lo n lo') (x : BitVec m) (h : lo + n ≤ lo') : field lo n (put lo' x) = 0 := by
  apply BitVec.eq_of_getLsbD_eq
  intro i hi
  rw [getLsbD_field, bit_put]
  have : ¬ lo' ≤ lo + i := by omega
  simp [this]

theorem field_put_above {m} (lo n lo') (x : BitVec m) (h : lo' + m ≤ lo) : field lo n (put lo' x) = 0 := by
  apply BitVec.eq_of_getLsbD_eq
  intro i hi
  rw [getLsbD_field, bit_put]
  have : x.getLsbD (lo + i - lo') = false := BitVec.getLsbD_of_ge _ _ (by omega)
  simp [this]

theorem bit_put_below {m} (i lo') (x : BitVec m) (h : i < lo') : bit (put lo' x) i = false := by
  rw [bit_put]; have : ¬ lo' ≤ i := by omega
  simp [this]
theorem bit_put_above {m} (i lo') (x : BitVec m) (h : lo' + m ≤ i) : bit (put lo' x) i = false := by
  rw [bit_put, BitVec.getLsbD_of_ge x (i - lo') (by omega)]; simp
theorem bit_putBit_same (i) (b : Bool) (h : i < 32) : bit (putBit i b) i = b := by
  simp [putBit, bit_put, h]
theorem bit_putBit_ne (i j) (b : Bool) (h : i ≠ j) : bit (putBit j b) i = false := by
  rcases Nat.lt_or_gt_of_ne h with h | h
  · exact bit_put_below _ _ _ h
  · exact bit_put_above _ _ _ (by omega)
theorem field_putBit_out (lo n j) (b : Bool) (h : j < lo ∨ lo + n ≤ j) : field lo n (putBit j b) = 0 := by
  rcases h with h | h
  · exact field_put_above _ _ _ _ (by omega)
  · exact field_put_below _ _ _ _ (by omega)
@[simp] theorem ofBits_bits (c : Cond) : Cond.ofBits c.bits = some c := by cases c <;> rfl
@[simp] theorem sh_ofBits_bits (c : ShiftKind) : ShiftKind.ofBits c.bits = c := by cases c <;> rfl

@[simp] theorem field_zero (lo n) : field lo n 0 = 0 := by simp [field]


theorem field_put_inner {m} (lo n lo') (x : BitVec m) (h : lo' ≤ lo) (h2 : lo + n ≤ 32) : field lo n (put lo' x) = x.extractLsb' (lo - lo') n := by
  apply BitVec.eq_of_getLsbD_eq
  intro i hi
  rw [getLsbD_field, bit_put]
  have h3 : lo + i < 32 := by omega
  have h4 : lo' ≤ lo + i := by omega
  have h5 : lo + i - lo' = lo - lo' + i := by omega
  simp [h3, h4, hi, h5]
theorem field_put_outer {m} (lo n lo') (x : BitVec m) (h : lo ≤ lo') (h2 : lo + n ≤ 32) : field lo n (put lo' x) = x.setWidth n <<< (lo' - lo) := by
  apply BitVec.eq_of_getLsbD_eq
  intro i hi
  rw [getLsbD_field, bit_put]
  have h3 : lo + i < 32 := by omega
  simp only [BitVec.getLsbD_shiftLeft, BitVec.getLsbD_setWidth, h3, hi]
  by_cases h4 : lo' ≤ lo + i
  · have h5 : lo + i - lo' = i - (lo' - lo) := by omega
    have h6 : i - (lo' - lo) < n := by omega
    have h7 : ¬ i < lo' - lo := by omega
    simp [h4, h5, h6, h7]
  · have h7 : i < lo' - lo := by omega
    simp [h4, h7]
theorem bit_put_inner {m} (i lo') (x : BitVec m) (h : lo' ≤ i) (h2 : i < 32) : bit (put lo' x) i = x.getLsbD (i - lo') := by
  rw [bit_put]; simp [h, h2]

@[simp] theorem zero_or_word {n : Nat} (x : BitVec n) : 0#n ||| x = x := by simp

/-- The two halves of a byte make the byte (R96). -/
theorem byte_halves (x : BitVec 8) : x.extractLsb' 4 4 ++ x.extractLsb' 0 4 = x := by
  apply BitVec.eq_of_getLsbD_eq
  intro i hi
  rw [BitVec.getLsbD_append]
  by_cases h : i < 4
  · simp [h]
  · have h2 : 4 + (i - 4) = i := by omega
    have h3 : i - 4 < 4 := by omega
    simp [h, h2, h3]

end Sys2Proof
end

