-- ==== Sys2Proof/Laws/Memory.lean ====
section
/-! SUPPORT. Memory: a read after a write, the canonical form, and the bytes a store writes (`20_memory.md` R60, R63). -/

namespace Sys2Proof.Machine

/-! ### One byte -/

/-- A byte reads as written, and every other byte as before. -/
@[simp] theorem Memory.read_write (m : Memory) (a b : Nat) (v : Byte) :
    (m.write a v).read b = if b = a then some v else m.read b := by
  induction m with
  | nil => simp [Memory.write, Memory.read]
  | cons e rest ih =>
    obtain ⟨k, w⟩ := e
    simp only [Memory.write]
    split
    · rfl
    · split
      · subst_vars
        simp only [Memory.read]
        split <;> rfl
      · simp only [Memory.read, ih]
        by_cases h1 : b = k
        · subst h1
          have : ¬ b = a := fun h => by simp_all
          simp [this]
        · simp [h1]

theorem Memory.risesFrom_mono {m : Memory} {lo hi : Nat} (h : lo ≤ hi) (hm : m.risesFrom hi = true) :
    m.risesFrom lo = true := by
  cases m with
  | nil => rfl
  | cons e rest =>
    simp only [Memory.risesFrom, Bool.and_eq_true, decide_eq_true_eq] at *
    exact ⟨⟨Nat.le_trans h hm.1.1, hm.1.2⟩, hm.2⟩

theorem Memory.risesFrom_write {m : Memory} {lo a : Nat} (v : Byte) (hm : m.risesFrom lo = true) (hlo : lo ≤ a)
    (ha : a < 2 ^ 32) : (m.write a v).risesFrom lo = true := by
  induction m generalizing lo with
  | nil => simp [Memory.write, Memory.risesFrom]; omega
  | cons e rest ih =>
    obtain ⟨k, w⟩ := e
    simp only [Memory.risesFrom, Bool.and_eq_true, decide_eq_true_eq] at hm
    simp only [Memory.write]
    split
    · simp only [Memory.risesFrom, Bool.and_eq_true, decide_eq_true_eq]
      exact ⟨⟨hlo, ha⟩, ⟨by omega, hm.1.2⟩, hm.2⟩
    · split
      · simp only [Memory.risesFrom, Bool.and_eq_true, decide_eq_true_eq]
        exact hm
      · simp only [Memory.risesFrom, Bool.and_eq_true, decide_eq_true_eq]
        exact ⟨hm.1, ih hm.2 (by omega)⟩

/-- A write keeps the canonical form. -/
theorem Memory.wf_write {m : Memory} {a : Nat} (v : Byte) (hm : m.wf = true) (ha : a < 2 ^ 32) :
    (m.write a v).wf = true := Memory.risesFrom_write v hm (Nat.zero_le _) ha

/-- Nothing is listed below the bound. -/
theorem Memory.read_of_lt {m : Memory} {lo a : Nat} (hm : m.risesFrom lo = true) (h : a < lo) : m.read a = none := by
  induction m generalizing lo with
  | nil => rfl
  | cons e rest ih =>
    obtain ⟨k, w⟩ := e
    simp only [Memory.risesFrom, Bool.and_eq_true, decide_eq_true_eq] at hm
    have hk : ¬ a = k := by omega
    simp only [Memory.read, hk, if_false]
    exact ih hm.2 (by omega)

/-- Two canonical memories that read alike are equal data. -/
theorem Memory.ext_read {m n : Memory} {lo : Nat} (hm : m.risesFrom lo = true) (hn : n.risesFrom lo = true)
    (h : ∀ a, m.read a = n.read a) : m = n := by
  induction m generalizing n lo with
  | nil =>
    cases n with
    | nil => rfl
    | cons e rest => have := h e.1; simp [Memory.read] at this
  | cons e rest ih =>
    obtain ⟨k, w⟩ := e
    cases n with
    | nil => have := h k; simp [Memory.read] at this
    | cons f rest' =>
      obtain ⟨l, x⟩ := f
      simp only [Memory.risesFrom, Bool.and_eq_true, decide_eq_true_eq] at hm hn
      have hkl : k = l := by
        rcases Nat.lt_trichotomy k l with hlt | heq | hgt
        · have h1 := h k
          have h2 : ¬ k = l := by omega
          rw [Memory.read, Memory.read, if_pos rfl, if_neg h2, Memory.read_of_lt hn.2 (by omega)] at h1
          cases h1
        · exact heq
        · have h1 := h l
          have h2 : ¬ l = k := by omega
          rw [Memory.read, Memory.read, if_pos rfl, if_neg h2, Memory.read_of_lt hm.2 (by omega)] at h1
          cases h1
      subst hkl
      have hw : w = x := by have := h k; simpa [Memory.read] using this
      subst hw
      rw [ih hm.2 hn.2]
      intro a
      have h1 := h a
      simp only [Memory.read] at h1
      by_cases hak : a = k
      · subst hak
        rw [Memory.read_of_lt hm.2 (by omega), Memory.read_of_lt hn.2 (by omega)]
      · simpa [hak] using h1

/-! ### Several bytes -/

/-- After bytes are written from `a` on, the byte at `x` is the written one where there is one. -/
theorem Memory.read_writeAll (m : Memory) (a x : Word) (bs : List Byte) (h : bs.length ≤ 2 ^ 32) :
    (m.writeAll a bs).read x.toNat = (bs[(x - a).toNat]?).or (m.read x.toNat) := by
  induction bs generalizing m a with
  | nil => simp [Memory.writeAll]
  | cons b rest ih =>
    rw [List.length_cons] at h
    rw [Memory.writeAll, ih _ _ (by omega), Memory.read_write]
    by_cases hx : x = a
    · subst hx
      have h1 : (x - (x + 1)).toNat = 2 ^ 32 - 1 := by
        have : x - (x + 1) = 4294967295#32 := by bv_omega
        rw [this]; rfl
      rw [h1, List.getElem?_eq_none (by omega)]
      simp
    · have h1 : (x - a).toNat = (x - (a + 1)).toNat + 1 := by
        have h2 : x - a ≠ 0 := fun h0 => hx (by bv_omega)
        bv_omega
      have h3 : ¬ x.toNat = a.toNat := fun h0 => hx (BitVec.eq_of_toNat_eq h0)
      rw [h1, List.getElem?_cons_succ, if_neg h3]

theorem Memory.wf_writeAll {m : Memory} (a : Word) (bs : List Byte) (hm : m.wf = true) : (m.writeAll a bs).wf = true := by
  induction bs generalizing m a with
  | nil => exact hm
  | cons b rest ih => exact ih _ (Memory.wf_write b hm a.isLt)

/-! ### Words and bytes -/

@[simp] theorem bytesOfWord_length (bigEnd : Bool) (w : Word) : (bytesOfWord bigEnd w).length = 4 := rfl

@[simp] theorem Size.split_length (z : Size) (bigEnd : Bool) (v : Word) : (z.split bigEnd v).length = z.bytes := by
  cases z <;> cases bigEnd <;> rfl

/-- A word is what its four bytes make. -/
theorem wordOfBytes_byteOfWord (bigEnd : Bool) (w : Word) :
    wordOfBytes bigEnd (byteOfWord bigEnd w 0) (byteOfWord bigEnd w 1) (byteOfWord bigEnd w 2) (byteOfWord bigEnd w 3) =
      w := by
  cases bigEnd <;> simp only [wordOfBytes, byteOfWord] <;>
    (apply BitVec.eq_of_getLsbD_eq
     intro i hi
     simp only [BitVec.getLsbD_append, BitVec.getLsbD_extractLsb', Bool.false_eq_true, if_false, if_true]
     by_cases h1 : i < 8
     · simp [h1]
     · by_cases h2 : i < 16
       · have h3 : i - 8 < 8 := by omega
         have h4 : 8 + (i - 8) = i := by omega
         simp [h1, h3, h4]
       · have h3 : ¬ i - 8 < 8 := by omega
         by_cases h5 : i < 24
         · have h6 : i - 8 - 8 < 8 := by omega
           have h7 : 16 + (i - 8 - 8) = i := by omega
           simp [h1, h3, h6, h7]
         · have h6 : ¬ i - 8 - 8 < 8 := by omega
           have h7 : i - 8 - 8 - 8 < 8 := by omega
           have h8 : 24 + (i - 8 - 8 - 8) = i := by omega
           simp [h1, h3, h6, h7, h8])

/-! ### Stores -/

/-- A byte outside the stored ones is as before. -/
theorem State.byteAt_store_outside (s : State) (z : Size) (a v x : Word) (h : z.bytes ≤ (x - a).toNat) :
    (s.store z a v).byteAt x = s.byteAt x := by
  have hl : (z.split s.platform.bigEnd v).length ≤ 2 ^ 32 := by cases z <;> simp [Size.bytes]
  have hn : (z.split s.platform.bigEnd v)[(x - a).toNat]? = none := List.getElem?_eq_none (by simpa using h)
  simp only [State.byteAt, State.store]
  rw [Memory.read_writeAll _ _ _ _ hl, hn]; rfl

/-- A stored byte. -/
theorem State.byteAt_store_inside (s : State) (z : Size) (a v : Word) (k : Nat) (h : k < z.bytes) :
    (s.store z a v).byteAt (a + BitVec.ofNat 32 k) = (z.split s.platform.bigEnd v)[k]? := by
  have hl : (z.split s.platform.bigEnd v).length ≤ 2 ^ 32 := by cases z <;> simp [Size.bytes]
  have h4 : z.bytes ≤ 4 := by cases z <;> simp [Size.bytes]
  have hk : (a + BitVec.ofNat 32 k - a).toNat = k := by
    have : a + BitVec.ofNat 32 k - a = BitVec.ofNat 32 k := by bv_omega
    rw [this, BitVec.toNat_ofNat]; omega
  have hs : ∃ b, (z.split s.platform.bigEnd v)[k]? = some b :=
    ⟨_, List.getElem?_eq_getElem (by simpa using h)⟩
  obtain ⟨b, hb⟩ := hs
  simp only [State.byteAt, State.store]
  rw [Memory.read_writeAll _ _ _ _ hl, hk, hb]; rfl

/-- A stored word reads back. -/
@[simp] theorem State.wordAt_store (s : State) (a v : Word) : (s.store .word a v).wordAt a = some v := by
  have h0 := s.byteAt_store_inside .word a v 0 (by decide)
  have h1 := s.byteAt_store_inside .word a v 1 (by decide)
  have h2 := s.byteAt_store_inside .word a v 2 (by decide)
  have h3 := s.byteAt_store_inside .word a v 3 (by decide)
  have e0 : a + BitVec.ofNat 32 0 = a := by bv_omega
  rw [e0] at h0
  have e1 : a + BitVec.ofNat 32 1 = a + 1 := rfl
  have e2 : a + BitVec.ofNat 32 2 = a + 2 := rfl
  have e3 : a + BitVec.ofNat 32 3 = a + 3 := rfl
  rw [e1] at h1; rw [e2] at h2; rw [e3] at h3
  simp only [State.wordAt, h0, h1, h2, h3, Size.split, bytesOfWord, List.getElem?_cons_zero, List.getElem?_cons_succ]
  exact congrArg some (wordOfBytes_byteOfWord s.platform.bigEnd v)

/-- A store keeps the canonical form. -/
theorem State.wf_store (s : State) (z : Size) (a v : Word) (h : s.mem.wf = true) : (s.store z a v).mem.wf = true :=
  Memory.wf_writeAll _ _ h

/-- The canonical form holds after reset. -/
theorem reset_mem_wf : State.reset.mem.wf = true := rfl

end Sys2Proof.Machine
end

