-- ==== Sys2Proof/Laws/Registers.lean ====
section
/-! SUPPORT. The register file: a write is seen under the same name and under no other, and other banks keep their values
(`10_state.md` R22, R24). -/

namespace Sys2Proof.Machine

/-- The register number that a physical register answers to. -/
def PhysReg.number : PhysReg → RegNum
  | .r0 => 0
  | .r1 => 1
  | .r2 => 2
  | .r3 => 3
  | .r4 => 4
  | .r5 => 5
  | .r6 => 6
  | .r7 => 7
  | .r8 => 8
  | .r9 => 9
  | .r10 => 10
  | .r11 => 11
  | .r12 => 12
  | .r13 => 13
  | .r14 => 14
  | .r8Fiq => 8
  | .r9Fiq => 9
  | .r10Fiq => 10
  | .r11Fiq => 11
  | .r12Fiq => 12
  | .r13Fiq => 13
  | .r14Fiq => 14
  | .r13Svc => 13
  | .r14Svc => 14
  | .r13Abt => 13
  | .r14Abt => 14
  | .r13Und => 13
  | .r14Und => 14
  | .r13Irq => 13
  | .r14Irq => 14

@[simp] theorem bankR13_number (m : BitVec 5) : (bankR13 m).number = 13 := by
  unfold bankR13; split <;> rfl

@[simp] theorem bankR14_number (m : BitVec 5) : (bankR14 m).number = 14 := by
  unfold bankR14; split <;> rfl

/-- A register number by its value. -/
theorem regNum_cases (P : RegNum → Prop) (h0 : P 0) (h1 : P 1) (h2 : P 2) (h3 : P 3) (h4 : P 4) (h5 : P 5) (h6 : P 6)
    (h7 : P 7) (h8 : P 8) (h9 : P 9) (h10 : P 10) (h11 : P 11) (h12 : P 12) (h13 : P 13) (h14 : P 14) (h15 : P 15)
    (i : RegNum) : P i := by
  have h : ∀ n : Nat, n < 16 → P (BitVec.ofNat 4 n) := by
    intro n hn
    match n, hn with
    | 0, _ => exact h0
    | 1, _ => exact h1
    | 2, _ => exact h2
    | 3, _ => exact h3
    | 4, _ => exact h4
    | 5, _ => exact h5
    | 6, _ => exact h6
    | 7, _ => exact h7
    | 8, _ => exact h8
    | 9, _ => exact h9
    | 10, _ => exact h10
    | 11, _ => exact h11
    | 12, _ => exact h12
    | 13, _ => exact h13
    | 14, _ => exact h14
    | 15, _ => exact h15
    | n + 16, hn => omega
  have := h i.toNat i.isLt
  simpa using this

/-- The physical register that a name selects answers to that name's number. -/
theorem phys_number {m : BitVec 5} {i : RegNum} {p : PhysReg} (h : phys m i = some p) : p.number = i := by
  revert h
  induction i using regNum_cases <;> simp only [phys] <;> intro h <;>
    first
      | (injection h with h; subst h; first | rfl | (split <;> rfl) | simp)
      | cases h

/-- Only R15 selects no physical register. -/
theorem phys_eq_none {m : BitVec 5} {i : RegNum} : phys m i = none ↔ i = 15 := by
  induction i using regNum_cases <;> simp [phys]

theorem phys_isSome (m : BitVec 5) {i : RegNum} (h : i ≠ 15) : ∃ p, phys m i = some p := by
  cases hp : phys m i with
  | some p => exact ⟨p, rfl⟩
  | none => exact absurd (phys_eq_none.1 hp) h

/-- Two names select different registers. -/
theorem phys_inj {m : BitVec 5} {i j : RegNum} {p : PhysReg} (hi : phys m i = some p) (hj : phys m j = some p) : i = j :=
  (phys_number hi).symm.trans (phys_number hj)

@[simp] theorem phys_15 (m : BitVec 5) : phys m 15#4 = none := phys_eq_none.2 rfl

@[simp] theorem Regs.get_set_same (g : Regs) (p : PhysReg) (v : Word) : (g.set p v).get p = v := by cases p <;> rfl

theorem Regs.get_set_ne (g : Regs) {p q : PhysReg} (v : Word) (h : q ≠ p) : (g.set p v).get q = g.get q := by
  cases p <;> cases q <;> first | rfl | exact absurd rfl h

/-- Two register files that agree in every cell are one. -/
theorem Regs.ext_get {g k : Regs} (h : ∀ p, g.get p = k.get p) : g = k := by
  have h0 := h .r0; have h1 := h .r1; have h2 := h .r2; have h3 := h .r3; have h4 := h .r4; have h5 := h .r5
  have h6 := h .r6; have h7 := h .r7; have h8 := h .r8; have h9 := h .r9; have h10 := h .r10; have h11 := h .r11
  have h12 := h .r12; have h13 := h .r13; have h14 := h .r14; have f8 := h .r8Fiq; have f9 := h .r9Fiq
  have f10 := h .r10Fiq; have f11 := h .r11Fiq; have f12 := h .r12Fiq; have f13 := h .r13Fiq; have f14 := h .r14Fiq
  have s13 := h .r13Svc; have s14 := h .r14Svc; have a13 := h .r13Abt; have a14 := h .r14Abt; have u13 := h .r13Und
  have u14 := h .r14Und; have i13 := h .r13Irq; have i14 := h .r14Irq
  cases g; cases k
  simp only [Regs.get] at *
  subst_vars; rfl

@[simp] theorem Regs.write_15 (g : Regs) (m : BitVec 5) (v : Word) : g.write m 15#4 v = g := by simp [Regs.write]

theorem Regs.write_of_phys {g : Regs} {m : BitVec 5} {i : RegNum} {p : PhysReg} (v : Word) (h : phys m i = some p) :
    g.write m i v = g.set p v := by simp [Regs.write, h]

/-- A write touches no physical register but the one its name selects. -/
theorem Regs.get_write (g : Regs) (m : BitVec 5) (i : RegNum) (v : Word) (q : PhysReg) :
    (g.write m i v).get q = if phys m i = some q then v else g.get q := by
  unfold Regs.write
  cases h : phys m i with
  | none => simp
  | some p =>
    by_cases hq : p = q
    · subst hq; simp
    · simp [hq, Regs.get_set_ne g v (Ne.symm hq)]

/-- Writes under two different names of one mode commute. -/
theorem Regs.write_comm (g : Regs) (m : BitVec 5) {i j : RegNum} (v w : Word) (h : i ≠ j) :
    (g.write m i v).write m j w = (g.write m j w).write m i v := by
  apply Regs.ext_get
  intro q
  simp only [Regs.get_write]
  by_cases hi : phys m i = some q <;> by_cases hj : phys m j = some q <;> simp [hi, hj]
  exact absurd (phys_inj hi hj) h

/-- The last write under a name stands. -/
@[simp] theorem Regs.write_write (g : Regs) (m : BitVec 5) (i : RegNum) (v w : Word) :
    (g.write m i v).write m i w = g.write m i w := by
  apply Regs.ext_get
  intro q
  simp only [Regs.get_write]
  split <;> rfl

/-- Reading a register after writing one, in the same mode. -/
theorem State.readReg_write (s : State) {i : RegNum} (hi : i ≠ 15) (v : Word) (j : RegNum) :
    ({ s with regs := s.regs.write s.cpsr.m i v } : State).readReg j = if j = i then v else s.readReg j := by
  unfold State.readReg
  cases hj : phys s.cpsr.m j with
  | none =>
    have : j = 15 := phys_eq_none.1 hj
    subst this
    simp; exact fun h => absurd h.symm hi
  | some p =>
    simp only [Regs.get_write]
    by_cases hij : j = i
    · subst hij; simp [hj]
    · have : phys s.cpsr.m i ≠ some p := fun h => hij (phys_inj hj h)
      simp [this, hij]

@[simp] theorem State.readReg_15 (s : State) : s.readReg 15#4 = s.pc + 8 := by simp [State.readReg]

theorem State.writeReg_of_ne (s : State) {i : RegNum} (v : Word) (h : i ≠ 15) :
    s.writeReg i v = { s with regs := s.regs.write s.cpsr.m i v } := if_neg h

@[simp] theorem State.writeReg_15 (s : State) (v : Word) : s.writeReg 15#4 v = { s with pc := v &&& 0xFFFFFFFC } := rfl

theorem State.writeUser_of_ne (s : State) {i : RegNum} (v : Word) (h : i ≠ 15) :
    s.writeUser i v = { s with regs := s.regs.write Mode.usr.bits i v } := if_neg h

theorem State.readReg_writeReg (s : State) {i : RegNum} (hi : i ≠ 15) (v : Word) (j : RegNum) :
    (s.writeReg i v).readReg j = if j = i then v else s.readReg j := by
  rw [s.writeReg_of_ne v hi]; exact s.readReg_write hi v j

end Sys2Proof.Machine
end

