-- ==== Sys2Proof/Laws/State.lean ====
section
/-! SUPPORT. What each named update of the state leaves alone: one lemma for each field. -/

namespace Sys2Proof.Machine

/-! ### `State.writeReg`, `State.writeUser`, `State.writeBase` -/

@[simp] theorem State.writeReg_cpsr (s : State) (i : RegNum) (v : Word) : (s.writeReg i v).cpsr = s.cpsr := by
  unfold State.writeReg; split <;> rfl
@[simp] theorem State.writeReg_spsrSvc (s : State) (i : RegNum) (v : Word) : (s.writeReg i v).spsrSvc = s.spsrSvc := by
  unfold State.writeReg; split <;> rfl
@[simp] theorem State.writeReg_spsrAbt (s : State) (i : RegNum) (v : Word) : (s.writeReg i v).spsrAbt = s.spsrAbt := by
  unfold State.writeReg; split <;> rfl
@[simp] theorem State.writeReg_spsrUnd (s : State) (i : RegNum) (v : Word) : (s.writeReg i v).spsrUnd = s.spsrUnd := by
  unfold State.writeReg; split <;> rfl
@[simp] theorem State.writeReg_spsrIrq (s : State) (i : RegNum) (v : Word) : (s.writeReg i v).spsrIrq = s.spsrIrq := by
  unfold State.writeReg; split <;> rfl
@[simp] theorem State.writeReg_spsrFiq (s : State) (i : RegNum) (v : Word) : (s.writeReg i v).spsrFiq = s.spsrFiq := by
  unfold State.writeReg; split <;> rfl
@[simp] theorem State.writeReg_mem (s : State) (i : RegNum) (v : Word) : (s.writeReg i v).mem = s.mem := by
  unfold State.writeReg; split <;> rfl
@[simp] theorem State.writeReg_lines (s : State) (i : RegNum) (v : Word) : (s.writeReg i v).lines = s.lines := by
  unfold State.writeReg; split <;> rfl
@[simp] theorem State.writeReg_platform (s : State) (i : RegNum) (v : Word) : (s.writeReg i v).platform = s.platform := by
  unfold State.writeReg; split <;> rfl
@[simp] theorem State.writeReg_stale (s : State) (i : RegNum) (v : Word) : (s.writeReg i v).stale = s.stale := by
  unfold State.writeReg; split <;> rfl
@[simp] theorem State.writeReg_afterUserBank (s : State) (i : RegNum) (v : Word) : (s.writeReg i v).afterUserBank = s.afterUserBank := by
  unfold State.writeReg; split <;> rfl
@[simp] theorem State.writeReg_draws (s : State) (i : RegNum) (v : Word) : (s.writeReg i v).draws = s.draws := by
  unfold State.writeReg; split <;> rfl
@[simp] theorem State.writeUser_cpsr (s : State) (i : RegNum) (v : Word) : (s.writeUser i v).cpsr = s.cpsr := by
  unfold State.writeUser; split <;> rfl
@[simp] theorem State.writeUser_spsrSvc (s : State) (i : RegNum) (v : Word) : (s.writeUser i v).spsrSvc = s.spsrSvc := by
  unfold State.writeUser; split <;> rfl
@[simp] theorem State.writeUser_spsrAbt (s : State) (i : RegNum) (v : Word) : (s.writeUser i v).spsrAbt = s.spsrAbt := by
  unfold State.writeUser; split <;> rfl
@[simp] theorem State.writeUser_spsrUnd (s : State) (i : RegNum) (v : Word) : (s.writeUser i v).spsrUnd = s.spsrUnd := by
  unfold State.writeUser; split <;> rfl
@[simp] theorem State.writeUser_spsrIrq (s : State) (i : RegNum) (v : Word) : (s.writeUser i v).spsrIrq = s.spsrIrq := by
  unfold State.writeUser; split <;> rfl
@[simp] theorem State.writeUser_spsrFiq (s : State) (i : RegNum) (v : Word) : (s.writeUser i v).spsrFiq = s.spsrFiq := by
  unfold State.writeUser; split <;> rfl
@[simp] theorem State.writeUser_mem (s : State) (i : RegNum) (v : Word) : (s.writeUser i v).mem = s.mem := by
  unfold State.writeUser; split <;> rfl
@[simp] theorem State.writeUser_lines (s : State) (i : RegNum) (v : Word) : (s.writeUser i v).lines = s.lines := by
  unfold State.writeUser; split <;> rfl
@[simp] theorem State.writeUser_platform (s : State) (i : RegNum) (v : Word) : (s.writeUser i v).platform = s.platform := by
  unfold State.writeUser; split <;> rfl
@[simp] theorem State.writeUser_stale (s : State) (i : RegNum) (v : Word) : (s.writeUser i v).stale = s.stale := by
  unfold State.writeUser; split <;> rfl
@[simp] theorem State.writeUser_afterUserBank (s : State) (i : RegNum) (v : Word) : (s.writeUser i v).afterUserBank = s.afterUserBank := by
  unfold State.writeUser; split <;> rfl
@[simp] theorem State.writeUser_draws (s : State) (i : RegNum) (v : Word) : (s.writeUser i v).draws = s.draws := by
  unfold State.writeUser; split <;> rfl

@[simp] theorem State.writeBase_none (s : State) (i : RegNum) : s.writeBase i none = s := rfl

@[simp] theorem State.writeBase_some (s : State) (i : RegNum) (v : Word) : s.writeBase i (some v) = s.writeReg i v := rfl

@[simp] theorem State.writeBase_cpsr (s : State) (i : RegNum) (b : Option Word) : (s.writeBase i b).cpsr = s.cpsr := by
  cases b <;> simp
@[simp] theorem State.writeBase_spsrSvc (s : State) (i : RegNum) (b : Option Word) : (s.writeBase i b).spsrSvc = s.spsrSvc := by
  cases b <;> simp
@[simp] theorem State.writeBase_spsrAbt (s : State) (i : RegNum) (b : Option Word) : (s.writeBase i b).spsrAbt = s.spsrAbt := by
  cases b <;> simp
@[simp] theorem State.writeBase_spsrUnd (s : State) (i : RegNum) (b : Option Word) : (s.writeBase i b).spsrUnd = s.spsrUnd := by
  cases b <;> simp
@[simp] theorem State.writeBase_spsrIrq (s : State) (i : RegNum) (b : Option Word) : (s.writeBase i b).spsrIrq = s.spsrIrq := by
  cases b <;> simp
@[simp] theorem State.writeBase_spsrFiq (s : State) (i : RegNum) (b : Option Word) : (s.writeBase i b).spsrFiq = s.spsrFiq := by
  cases b <;> simp
@[simp] theorem State.writeBase_mem (s : State) (i : RegNum) (b : Option Word) : (s.writeBase i b).mem = s.mem := by
  cases b <;> simp
@[simp] theorem State.writeBase_lines (s : State) (i : RegNum) (b : Option Word) : (s.writeBase i b).lines = s.lines := by
  cases b <;> simp
@[simp] theorem State.writeBase_platform (s : State) (i : RegNum) (b : Option Word) : (s.writeBase i b).platform = s.platform := by
  cases b <;> simp
@[simp] theorem State.writeBase_stale (s : State) (i : RegNum) (b : Option Word) : (s.writeBase i b).stale = s.stale := by
  cases b <;> simp
@[simp] theorem State.writeBase_afterUserBank (s : State) (i : RegNum) (b : Option Word) : (s.writeBase i b).afterUserBank = s.afterUserBank := by
  cases b <;> simp
@[simp] theorem State.writeBase_draws (s : State) (i : RegNum) (b : Option Word) : (s.writeBase i b).draws = s.draws := by
  cases b <;> simp

/-! ### `State.setSpsr` -/

@[simp] theorem State.setSpsr_regs (s : State) (m : Mode) (p : Psr) : (s.setSpsr m p).regs = s.regs := by
  cases m <;> rfl
@[simp] theorem State.setSpsr_pc (s : State) (m : Mode) (p : Psr) : (s.setSpsr m p).pc = s.pc := by
  cases m <;> rfl
@[simp] theorem State.setSpsr_cpsr (s : State) (m : Mode) (p : Psr) : (s.setSpsr m p).cpsr = s.cpsr := by
  cases m <;> rfl
@[simp] theorem State.setSpsr_mem (s : State) (m : Mode) (p : Psr) : (s.setSpsr m p).mem = s.mem := by
  cases m <;> rfl
@[simp] theorem State.setSpsr_lines (s : State) (m : Mode) (p : Psr) : (s.setSpsr m p).lines = s.lines := by
  cases m <;> rfl
@[simp] theorem State.setSpsr_platform (s : State) (m : Mode) (p : Psr) : (s.setSpsr m p).platform = s.platform := by
  cases m <;> rfl
@[simp] theorem State.setSpsr_stale (s : State) (m : Mode) (p : Psr) : (s.setSpsr m p).stale = s.stale := by
  cases m <;> rfl
@[simp] theorem State.setSpsr_afterUserBank (s : State) (m : Mode) (p : Psr) : (s.setSpsr m p).afterUserBank = s.afterUserBank := by
  cases m <;> rfl
@[simp] theorem State.setSpsr_draws (s : State) (m : Mode) (p : Psr) : (s.setSpsr m p).draws = s.draws := by
  cases m <;> rfl

/-! ### `State.store` -/

@[simp] theorem State.store_regs (s : State) (z : Size) (a v : Word) : (s.store z a v).regs = s.regs := rfl
@[simp] theorem State.store_pc (s : State) (z : Size) (a v : Word) : (s.store z a v).pc = s.pc := rfl
@[simp] theorem State.store_cpsr (s : State) (z : Size) (a v : Word) : (s.store z a v).cpsr = s.cpsr := rfl
@[simp] theorem State.store_spsrSvc (s : State) (z : Size) (a v : Word) : (s.store z a v).spsrSvc = s.spsrSvc := rfl
@[simp] theorem State.store_spsrAbt (s : State) (z : Size) (a v : Word) : (s.store z a v).spsrAbt = s.spsrAbt := rfl
@[simp] theorem State.store_spsrUnd (s : State) (z : Size) (a v : Word) : (s.store z a v).spsrUnd = s.spsrUnd := rfl
@[simp] theorem State.store_spsrIrq (s : State) (z : Size) (a v : Word) : (s.store z a v).spsrIrq = s.spsrIrq := rfl
@[simp] theorem State.store_spsrFiq (s : State) (z : Size) (a v : Word) : (s.store z a v).spsrFiq = s.spsrFiq := rfl
@[simp] theorem State.store_lines (s : State) (z : Size) (a v : Word) : (s.store z a v).lines = s.lines := rfl
@[simp] theorem State.store_platform (s : State) (z : Size) (a v : Word) : (s.store z a v).platform = s.platform := rfl
@[simp] theorem State.store_afterUserBank (s : State) (z : Size) (a v : Word) : (s.store z a v).afterUserBank = s.afterUserBank := rfl
@[simp] theorem State.store_draws (s : State) (z : Size) (a v : Word) : (s.store z a v).draws = s.draws := rfl

/-! ### `State.takeReset` -/

@[simp] theorem State.takeReset_mem (s : State) : (s.takeReset).mem = s.mem := rfl
@[simp] theorem State.takeReset_lines (s : State) : (s.takeReset).lines = s.lines := rfl
@[simp] theorem State.takeReset_platform (s : State) : (s.takeReset).platform = s.platform := rfl

@[simp] theorem State.takeReset_pc (s : State) : s.takeReset.pc = 0 := rfl
@[simp] theorem State.takeReset_stale (s : State) : s.takeReset.stale = [] := rfl
@[simp] theorem State.takeReset_afterUserBank (s : State) : s.takeReset.afterUserBank = false := rfl
@[simp] theorem State.takeReset_cpsr_m (s : State) : s.takeReset.cpsr.m = Mode.svc.bits := rfl
@[simp] theorem State.takeReset_cpsr_t (s : State) : s.takeReset.cpsr.t = false := rfl

/-! ### `State.takeException` -/

@[simp] theorem State.takeException_mem (s : State) (e : Exc) : (s.takeException e).mem = s.mem := by
  unfold State.takeException; split <;> simp
@[simp] theorem State.takeException_lines (s : State) (e : Exc) : (s.takeException e).lines = s.lines := by
  unfold State.takeException; split <;> simp
@[simp] theorem State.takeException_platform (s : State) (e : Exc) : (s.takeException e).platform = s.platform := by
  unfold State.takeException; split <;> simp

@[simp] theorem State.takeException_pc (s : State) (e : Exc) : (s.takeException e).pc = e.vector := by
  unfold State.takeException; split
  · subst_vars; rfl
  · rfl

@[simp] theorem State.takeException_stale (s : State) (e : Exc) : (s.takeException e).stale = [] := by
  unfold State.takeException; split <;> rfl

@[simp] theorem State.takeException_afterUserBank (s : State) (e : Exc) : (s.takeException e).afterUserBank = false := by
  unfold State.takeException; split <;> rfl

@[simp] theorem State.takeException_cpsr_m (s : State) (e : Exc) : (s.takeException e).cpsr.m = e.mode.bits := by
  unfold State.takeException; split
  · subst_vars; rfl
  · rfl

@[simp] theorem State.takeException_cpsr_t (s : State) (e : Exc) : (s.takeException e).cpsr.t = false := by
  unfold State.takeException; split <;> rfl

/-! ### The boundary: `State.sample`, `State.afterFetch`, `State.placeWord` -/

@[simp] theorem State.sample_regs (s : State) : (s.sample.2).regs = s.regs := by
  unfold State.sample; split <;> rfl
@[simp] theorem State.sample_pc (s : State) : (s.sample.2).pc = s.pc := by
  unfold State.sample; split <;> rfl
@[simp] theorem State.sample_cpsr (s : State) : (s.sample.2).cpsr = s.cpsr := by
  unfold State.sample; split <;> rfl
@[simp] theorem State.sample_spsrSvc (s : State) : (s.sample.2).spsrSvc = s.spsrSvc := by
  unfold State.sample; split <;> rfl
@[simp] theorem State.sample_spsrAbt (s : State) : (s.sample.2).spsrAbt = s.spsrAbt := by
  unfold State.sample; split <;> rfl
@[simp] theorem State.sample_spsrUnd (s : State) : (s.sample.2).spsrUnd = s.spsrUnd := by
  unfold State.sample; split <;> rfl
@[simp] theorem State.sample_spsrIrq (s : State) : (s.sample.2).spsrIrq = s.spsrIrq := by
  unfold State.sample; split <;> rfl
@[simp] theorem State.sample_spsrFiq (s : State) : (s.sample.2).spsrFiq = s.spsrFiq := by
  unfold State.sample; split <;> rfl
@[simp] theorem State.sample_mem (s : State) : (s.sample.2).mem = s.mem := by
  unfold State.sample; split <;> rfl
@[simp] theorem State.sample_platform (s : State) : (s.sample.2).platform = s.platform := by
  unfold State.sample; split <;> rfl
@[simp] theorem State.sample_stale (s : State) : (s.sample.2).stale = s.stale := by
  unfold State.sample; split <;> rfl
@[simp] theorem State.sample_afterUserBank (s : State) : (s.sample.2).afterUserBank = s.afterUserBank := by
  unfold State.sample; split <;> rfl
@[simp] theorem State.sample_draws (s : State) : (s.sample.2).draws = s.draws := by
  unfold State.sample; split <;> rfl
@[simp] theorem State.afterFetch_regs (s : State) : (s.afterFetch).regs = s.regs := rfl
@[simp] theorem State.afterFetch_pc (s : State) : (s.afterFetch).pc = s.pc := rfl
@[simp] theorem State.afterFetch_cpsr (s : State) : (s.afterFetch).cpsr = s.cpsr := rfl
@[simp] theorem State.afterFetch_spsrSvc (s : State) : (s.afterFetch).spsrSvc = s.spsrSvc := rfl
@[simp] theorem State.afterFetch_spsrAbt (s : State) : (s.afterFetch).spsrAbt = s.spsrAbt := rfl
@[simp] theorem State.afterFetch_spsrUnd (s : State) : (s.afterFetch).spsrUnd = s.spsrUnd := rfl
@[simp] theorem State.afterFetch_spsrIrq (s : State) : (s.afterFetch).spsrIrq = s.spsrIrq := rfl
@[simp] theorem State.afterFetch_spsrFiq (s : State) : (s.afterFetch).spsrFiq = s.spsrFiq := rfl
@[simp] theorem State.afterFetch_mem (s : State) : (s.afterFetch).mem = s.mem := rfl
@[simp] theorem State.afterFetch_lines (s : State) : (s.afterFetch).lines = s.lines := rfl
@[simp] theorem State.afterFetch_platform (s : State) : (s.afterFetch).platform = s.platform := rfl
@[simp] theorem State.afterFetch_afterUserBank (s : State) : (s.afterFetch).afterUserBank = s.afterUserBank := rfl
@[simp] theorem State.placeWord_regs (s : State) (w : Word) : (s.placeWord w).regs = s.regs := rfl
@[simp] theorem State.placeWord_pc (s : State) (w : Word) : (s.placeWord w).pc = s.pc := rfl
@[simp] theorem State.placeWord_cpsr (s : State) (w : Word) : (s.placeWord w).cpsr = s.cpsr := rfl
@[simp] theorem State.placeWord_spsrSvc (s : State) (w : Word) : (s.placeWord w).spsrSvc = s.spsrSvc := rfl
@[simp] theorem State.placeWord_spsrAbt (s : State) (w : Word) : (s.placeWord w).spsrAbt = s.spsrAbt := rfl
@[simp] theorem State.placeWord_spsrUnd (s : State) (w : Word) : (s.placeWord w).spsrUnd = s.spsrUnd := rfl
@[simp] theorem State.placeWord_spsrIrq (s : State) (w : Word) : (s.placeWord w).spsrIrq = s.spsrIrq := rfl
@[simp] theorem State.placeWord_spsrFiq (s : State) (w : Word) : (s.placeWord w).spsrFiq = s.spsrFiq := rfl
@[simp] theorem State.placeWord_afterUserBank (s : State) (w : Word) : (s.placeWord w).afterUserBank = s.afterUserBank := rfl
@[simp] theorem State.placeWord_draws (s : State) (w : Word) : (s.placeWord w).draws = s.draws := rfl

/-! ### Flags -/

@[simp] theorem Psr.withAlu_i (p : Psr) (r : Alu) : (p.withAlu r).i = p.i := rfl
@[simp] theorem Psr.withAlu_f (p : Psr) (r : Alu) : (p.withAlu r).f = p.f := rfl
@[simp] theorem Psr.withAlu_t (p : Psr) (r : Alu) : (p.withAlu r).t = p.t := rfl
@[simp] theorem Psr.withAlu_m (p : Psr) (r : Alu) : (p.withAlu r).m = p.m := rfl
@[simp] theorem Psr.withMul_i (p : Psr) (r : Word) (c : Bool) : (p.withMul r c).i = p.i := rfl
@[simp] theorem Psr.withMul_f (p : Psr) (r : Word) (c : Bool) : (p.withMul r c).f = p.f := rfl
@[simp] theorem Psr.withMul_t (p : Psr) (r : Word) (c : Bool) : (p.withMul r c).t = p.t := rfl
@[simp] theorem Psr.withMul_m (p : Psr) (r : Word) (c : Bool) : (p.withMul r c).m = p.m := rfl
@[simp] theorem Psr.withMulLong_i (p : Psr) (r : BitVec 64) (c v : Bool) : (p.withMulLong r c v).i = p.i := rfl
@[simp] theorem Psr.withMulLong_f (p : Psr) (r : BitVec 64) (c v : Bool) : (p.withMulLong r c v).f = p.f := rfl
@[simp] theorem Psr.withMulLong_t (p : Psr) (r : BitVec 64) (c v : Bool) : (p.withMulLong r c v).t = p.t := rfl
@[simp] theorem Psr.withMulLong_m (p : Psr) (r : BitVec 64) (c v : Bool) : (p.withMulLong r c v).m = p.m := rfl

/-- User mode has no SPSR (R46). -/
theorem State.spsr_user (s : State) (h : s.privileged = false) : s.spsr = none := by
  have : s.cpsr.m = Mode.usr.bits := by simpa [State.privileged] using h
  simp [State.spsr, Psr.mode, this, Mode.bits, Mode.ofBits]

/-- Every mode decodes from its own encoding (R44). -/
@[simp] theorem Mode.ofBits_bits (m : Mode) : Mode.ofBits m.bits = some m := by cases m <;> rfl

/-- A legal mode field is the encoding of its mode (R44). -/
theorem Mode.bits_of_ofBits {b : BitVec 5} {m : Mode} (h : Mode.ofBits b = some m) : m.bits = b := by
  revert h
  unfold Mode.ofBits
  split <;> intro h <;> cases h <;> exact (BitVec.eq_of_toNat_eq (by assumption)).symm

end Sys2Proof.Machine
end

