-- ==== Sys2Proof/Laws/Ops.lean ====
section
/-! SUPPORT. For each shared operation, all it can do: what its result must be where it answers a next state. -/

namespace Sys2Proof.Machine

/-! ### The frame of an instruction -/

/-- The condition is false, or the whole instruction ran. -/
theorem guarded_next {c : Cond} {bad : Option Fault} {l : List RegNum} {s t : State} {body : Out}
    (h : guarded c bad l s body = .next t) :
    (condPassed c s.cpsr = false ∧ s.advance = .next t) ∨
      (condPassed c s.cpsr = true ∧ bad = none ∧ s.hazard l = false ∧ body = .next t) := by
  unfold guarded at h
  cases hc : condPassed c s.cpsr
  · exact .inl ⟨rfl, by simpa [hc] using h⟩
  · right
    simp only [hc, if_true] at h
    cases bad with
    | some f => cases h
    | none =>
      cases hz : s.hazard l
      · exact ⟨rfl, rfl, rfl, by simpa [hz] using h⟩
      · simp [hz] at h

theorem guarded_skip {c : Cond} (bad : Option Fault) (l : List RegNum) {s : State} (body : Out)
    (h : condPassed c s.cpsr = false) : guarded c bad l s body = s.advance := by simp [guarded, h]

theorem guarded_run {c : Cond} {l : List RegNum} {s : State} (body : Out) (h : condPassed c s.cpsr = true)
    (hz : s.hazard l = false) : guarded c none l s body = body := by simp [guarded, h, hz]

theorem guarded_bad {c : Cond} (f : Fault) (l : List RegNum) {s : State} (body : Out) (h : condPassed c s.cpsr = true) :
    guarded c (some f) l s body = .fault f := by simp [guarded, h]

@[simp] theorem faultUnless_true (f : Fault) : faultUnless true f = none := rfl

@[simp] theorem faultUnless_false (f : Fault) : faultUnless false f = some f := rfl

theorem faultUnless_eq_none {ok : Bool} {f : Fault} : faultUnless ok f = none ↔ ok = true := by cases ok <;> simp

/-- No user-bank transfer came before, so there is no hazard. -/
theorem State.hazard_of_not (s : State) (l : List RegNum) (h : s.afterUserBank = false) : s.hazard l = false := by
  simp [State.hazard, h]

/-! ### The program counter -/

theorem State.advance_next {s t : State} :
    s.advance = .next t ↔ s.pc ≠ 0xFFFFFFFC ∧ t = { s with pc := s.pc + 4, afterUserBank := false } := by
  unfold State.advance
  split
  · simp_all
  · rename_i h
    constructor
    · intro e; cases e; exact ⟨h, rfl⟩
    · rintro ⟨-, rfl⟩; rfl

theorem State.advance_of_ne {s : State} (h : s.pc ≠ 0xFFFFFFFC) :
    s.advance = .next { s with pc := s.pc + 4, afterUserBank := false } := State.advance_next.2 ⟨h, rfl⟩

theorem State.branchTo_next {s t : State} {v : Word} (h : s.branchTo v = .next t) :
    t = { s with pc := v &&& 0xFFFFFFFC, stale := [], afterUserBank := false } := by cases h; rfl

/-- An exception return copies a legal SPSR with T = 0 and branches. -/
theorem State.exceptionReturn_next {s t : State} {v : Word} (h : s.exceptionReturn v = .next t) :
    ∃ p, s.spsr = some p ∧ p.t = false ∧ p.mode ≠ none ∧
      t = { s with cpsr := p, pc := v &&& 0xFFFFFFFC, stale := [], afterUserBank := false } := by
  unfold State.exceptionReturn at h
  cases hp : s.spsr with
  | none => simp [hp] at h
  | some p =>
    simp only [hp] at h
    cases ht : p.t
    · simp only [ht, Bool.false_eq_true, if_false] at h
      by_cases hm : p.mode = none
      · simp [hm] at h
      · rw [if_neg hm] at h
        exact ⟨p, rfl, ht, hm, State.branchTo_next h⟩
    · simp [ht] at h

/-! ### Memory accesses -/

theorem State.memRead_ok {s : State} {p : Bool} {z : Size} {a v : Word} :
    s.memRead p z a = .ok v ↔
      z.misaligned a = false ∧ s.aborts a z.bytes .read p = false ∧ s.valueAt z a = some v := by
  unfold State.memRead
  cases h1 : z.misaligned a <;> cases h2 : s.aborts a z.bytes .read p <;> cases h3 : s.valueAt z a <;> simp

theorem State.memRead_abort {s : State} {p : Bool} {z : Size} {a : Word} :
    s.memRead p z a = .abort ↔ z.misaligned a = false ∧ s.aborts a z.bytes .read p = true := by
  unfold State.memRead
  cases h1 : z.misaligned a <;> cases h2 : s.aborts a z.bytes .read p <;> cases h3 : s.valueAt z a <;> simp

theorem State.memWrite_ok {s t : State} {p : Bool} {z : Size} {a v : Word} :
    s.memWrite p z a v = .ok t ↔
      z.misaligned a = false ∧ s.aborts a z.bytes .write p = false ∧ t = s.store z a v := by
  unfold State.memWrite
  cases h1 : z.misaligned a <;> cases h2 : s.aborts a z.bytes .write p <;> simp
  exact eq_comm

theorem State.memWrite_abort {s : State} {p : Bool} {z : Size} {a v : Word} :
    s.memWrite p z a v = .abort ↔ z.misaligned a = false ∧ s.aborts a z.bytes .write p = true := by
  unfold State.memWrite
  cases h1 : z.misaligned a <;> cases h2 : s.aborts a z.bytes .write p <;> simp

/-- Which accesses abort depends on the platform alone. -/
theorem State.aborts_congr {s t : State} (h : t.platform = s.platform) (a : Word) (n : Nat) (k : AccessKind) (p : Bool) :
    t.aborts a n k p = s.aborts a n k p := by simp [State.aborts, h]

/-! ### Block transfers -/

/-- The words an LDM read whole: one for each register, at consecutive addresses. -/
theorem State.readMany_ok {s : State} {p : Bool} {a : Word} {rs : List RegNum} {vals : List (RegNum × Word)}
    (h : s.readMany p a rs = .ok vals) :
    vals.map Prod.fst = rs ∧
      ∀ k (hk : k < vals.length), s.memRead p .word (a + BitVec.ofNat 32 (4 * k)) = .ok vals[k].2 := by
  induction rs generalizing a vals with
  | nil => simp only [State.readMany] at h; cases h; simp
  | cons r rs ih =>
    simp only [State.readMany] at h
    cases hr : s.memRead p .word a with
    | fault f => simp [hr] at h
    | abort => simp [hr] at h
    | ok v =>
      simp only [hr] at h
      cases hm : s.readMany p (a + 4) rs with
      | fault f => rw [hm] at h; cases h
      | abort vs => rw [hm] at h; cases h
      | ok vs =>
        simp only [hm] at h
        cases h
        obtain ⟨h1, h2⟩ := ih hm
        refine ⟨by simp [h1], ?_⟩
        intro k hk
        cases k with
        | zero =>
          have e : a + BitVec.ofNat 32 (4 * 0) = a := by bv_omega
          rw [e]; exact hr
        | succ k =>
          have e : a + BitVec.ofNat 32 (4 * (k + 1)) = a + 4 + BitVec.ofNat 32 (4 * k) := by
            rw [Nat.mul_add, BitVec.ofNat_add]; bv_omega
          rw [e]
          exact h2 k (by simpa using hk)

/-- What the words of an STM leave alone, whether they were all stored or an access aborted. -/
theorem State.writeMany_frame {s t : State} {p : Bool} {a : Word} {vs : List Word}
    (h : s.writeMany p a vs = .ok t ∨ s.writeMany p a vs = .abort t) :
    t = { s with mem := t.mem, stale := t.stale } ∧ (s.mem.wf = true → t.mem.wf = true) := by
  induction vs generalizing s a with
  | nil => simp only [State.writeMany] at h; rcases h with h | h <;> cases h; exact ⟨rfl, id⟩
  | cons v vs ih =>
    simp only [State.writeMany] at h
    cases hw : s.memWrite p .word a v with
    | fault f => simp [hw] at h
    | abort =>
      simp only [hw] at h
      rcases h with h | h <;> cases h
      exact ⟨rfl, id⟩
    | ok s' =>
      simp only [hw] at h
      obtain ⟨-, -, rfl⟩ := State.memWrite_ok.1 hw
      obtain ⟨h1, h2⟩ := ih h
      exact ⟨h1, fun hs => h2 (s.wf_store .word a v hs)⟩

/-- The registers an LDM writes change registers only. -/
theorem State.writeRegs_frame (s : State) (u : Bool) (vals : List (RegNum × Word)) :
    s.writeRegs u vals = { s with regs := (s.writeRegs u vals).regs } := by
  induction vals generalizing s with
  | nil => rfl
  | cons e rest ih =>
    obtain ⟨r, v⟩ := e
    simp only [State.writeRegs]
    split
    · exact ih s
    · rename_i hr
      split
      · rw [s.writeUser_of_ne v hr]; exact ih _
      · rw [s.writeReg_of_ne v hr]; exact ih _

/-! ### The step -/

/-- A next state comes from an exception taken at the boundary, from the instruction that was fetched, or from a skipped
word that is no instruction. -/
theorem step_next {s t : State} (h : step s = .next t) :
    s.boundary = .enter t ∨ (∃ i s', s.boundary = .run i s' ∧ exec i s' = .next t) ∨
      ∃ s', s.boundary = .skip s' ∧ s'.advance = .next t := by
  unfold step at h
  cases hb : s.boundary with
  | enter u => simp only [hb] at h; cases h; exact .inl rfl
  | run i s' => simp only [hb] at h; exact .inr (.inl ⟨i, s', rfl, h⟩)
  | skip s' => simp only [hb] at h; exact .inr (.inr ⟨s', rfl, h⟩)
  | stop f => simp [hb] at h
  | refuse r => simp [hb] at h

/-- An instruction that runs was fetched at `pc` with T = 0, and its state differs from the one before by the lines and the
records of earlier stores. -/
theorem boundary_run {s s' : State} {i : Instr} (h : s.boundary = .run i s') :
    s.cpsr.t = false ∧ s' = s.sample.2.afterFetch ∧ Size.word.misaligned s.pc = false ∧
      ∃ w, s.sample.2.fetchedWord = some w ∧ decode w = .ok i := by
  unfold State.boundary at h
  split at h
  · cases h
  · rename_i ht
    unfold State.arbitrate at h
    repeat' split at h
    all_goals try cases h
    unfold State.fetch at h
    split at h
    · cases h
    · rename_i hal
      split at h
      · cases h
      · rename_i w hw
        split at h
        · rename_i j hd
          cases h
          exact ⟨by simpa using ht, rfl, by simpa using hal, w, hw, hd⟩
        · cases h
        · split at h <;> cases h
        · cases h

/-- A word that is skipped was fetched as an instruction is, matches no row, and its condition fails. -/
theorem boundary_skip {s s' : State} (h : s.boundary = .skip s') :
    s.cpsr.t = false ∧ s' = s.sample.2.afterFetch ∧ Size.word.misaligned s.pc = false ∧
      ∃ w w', s.sample.2.fetchedWord = some w ∧ decode w = .error (.unallocated w') ∧
        s.sample.2.wordPasses w' = false := by
  unfold State.boundary at h
  split at h
  · cases h
  · rename_i ht
    unfold State.arbitrate at h
    repeat' split at h
    all_goals try cases h
    unfold State.fetch at h
    split at h
    · cases h
    · rename_i hal
      split at h
      · cases h
      · rename_i w hw
        split at h
        · cases h
        · cases h
        · rename_i w' hd
          split at h
          · cases h
          · rename_i hp
            cases h
            exact ⟨by simpa using ht, rfl, by simpa using hal, w, w', hw, hd, by simpa using hp⟩
        · cases h

/-- A boundary that takes an exception takes one of these four. -/
theorem boundary_enter {s t : State} (h : s.boundary = .enter t) :
    s.cpsr.t = false ∧
      ∃ e, (e = .reset ∨ e = .fiq ∨ e = .irq ∨ e = .prefetchAbort) ∧ t = s.sample.2.takeException e := by
  unfold State.boundary at h
  split at h
  · cases h
  · rename_i ht
    refine ⟨by simpa using ht, ?_⟩
    unfold State.arbitrate at h
    split at h
    · cases h; exact ⟨.reset, .inl rfl, rfl⟩
    · split at h
      · cases h; exact ⟨.fiq, .inr (.inl rfl), rfl⟩
      · split at h
        · cases h; exact ⟨.irq, .inr (.inr (.inl rfl)), rfl⟩
        · split at h
          · cases h; exact ⟨.prefetchAbort, .inr (.inr (.inr rfl)), rfl⟩
          · unfold State.fetch at h
            repeat' split at h
            all_goals cases h

end Sys2Proof.Machine
end

