-- ==== Sys2Proof/Laws/PerInstr.lean ====
section
/-! SUPPORT. The per-instruction family `CondField`: bits [31:28] of an encoded instruction are its condition
(`30_encoding.md` R90). -/

-- One theorem after the other: a hundred at once ask for a hundred thread stacks, more than the checker's memory limit.
set_option Elab.async false

namespace Sys2Proof

/-- The condition field that the encoder puts is the whole of bits [31:28]. -/
@[simp] theorem condField_putCond (c : Cond) : field 28 4 (putCond c) = c.bits := field_put_same 28 c.bits (by omega)

@[simp] theorem condField_encodeDpImm (op c s rn rd rotate imm8) : field 28 4 (encodeDpImm op c s rn rd rotate imm8) = c.bits := by
  simp (disch := omega) [encodeDpImm, field_put_above, field_putBit_out]
@[simp] theorem condField_encodeDpShi (op c s rn rd am sh rm) : field 28 4 (encodeDpShi op c s rn rd am sh rm) = c.bits := by
  simp (disch := omega) [encodeDpShi, field_put_above, field_putBit_out]
@[simp] theorem condField_encodeDpShr (op c s rn rd rs sh rm) : field 28 4 (encodeDpShr op c s rn rd rs sh rm) = c.bits := by
  simp (disch := omega) [encodeDpShr, field_put_above, field_putBit_out]
@[simp] theorem condField_encodeMul (kind c s a d rs rm) : field 28 4 (encodeMul kind c s a d rs rm) = c.bits := by
  simp (disch := omega) [encodeMul, field_put_above, field_putBit_out]
@[simp] theorem condField_encodeSwap (b c rn rd rm) : field 28 4 (encodeSwap b c rn rd rm) = c.bits := by
  simp (disch := omega) [encodeSwap, field_put_above, field_putBit_out]
@[simp] theorem condField_encodeHalfReg (l sh c p u w rn rd rm) : field 28 4 (encodeHalfReg l sh c p u w rn rd rm) = c.bits := by
  simp (disch := omega) [encodeHalfReg, field_put_above, field_putBit_out]
@[simp] theorem condField_encodeHalfImm (l sh c p u w rn rd off) : field 28 4 (encodeHalfImm l sh c p u w rn rd off) = c.bits := by
  simp (disch := omega) [encodeHalfImm, field_put_above, field_putBit_out]
@[simp] theorem condField_encodeSdtImm (b l c p u w rn rd off) : field 28 4 (encodeSdtImm b l c p u w rn rd off) = c.bits := by
  simp (disch := omega) [encodeSdtImm, field_put_above, field_putBit_out]
@[simp] theorem condField_encodeSdtReg (b l c p u w rn rd am sh rm) : field 28 4 (encodeSdtReg b l c p u w rn rd am sh rm) = c.bits := by
  simp (disch := omega) [encodeSdtReg, field_put_above, field_putBit_out]
@[simp] theorem condField_encodeBlock (p u l c s w rn list) : field 28 4 (encodeBlock p u l c s w rn list) = c.bits := by
  simp (disch := omega) [encodeBlock, field_put_above, field_putBit_out]
@[simp] theorem condField_encodeCpTransfer (l c p u n w rn crd cp off) : field 28 4 (encodeCpTransfer l c p u n w rn crd cp off) = c.bits := by
  simp (disch := omega) [encodeCpTransfer, field_put_above, field_putBit_out]
@[simp] theorem condField_encodeCpRegister (l c op1 crn rd cp op2 crm) : field 28 4 (encodeCpRegister l c op1 crn rd cp op2 crm) = c.bits := by
  simp (disch := omega) [encodeCpRegister, field_put_above, field_putBit_out]

namespace Laws.CondField

/-- Bits [31:28] of the word of an instruction are its condition. -/
def Statement (i : Instr) : Prop := field 28 4 (encode i) = i.cond.bits

theorem andImm (x0 : Cond) (x1 : Bool) (x2 : RegNum) (x3 : RegNum) (x4 : BitVec 4) (x5 : BitVec 8) : Statement (.andImm x0 x1 x2 x3 x4 x5) := by
  simp [Statement, encode, Instr.cond]
theorem andShi (x0 : Cond) (x1 : Bool) (x2 : RegNum) (x3 : RegNum) (x4 : BitVec 5) (x5 : ShiftKind) (x6 : RegNum) : Statement (.andShi x0 x1 x2 x3 x4 x5 x6) := by
  simp [Statement, encode, Instr.cond]
theorem andShr (x0 : Cond) (x1 : Bool) (x2 : RegNum) (x3 : RegNum) (x4 : RegNum) (x5 : ShiftKind) (x6 : RegNum) : Statement (.andShr x0 x1 x2 x3 x4 x5 x6) := by
  simp [Statement, encode, Instr.cond]
theorem eorImm (x0 : Cond) (x1 : Bool) (x2 : RegNum) (x3 : RegNum) (x4 : BitVec 4) (x5 : BitVec 8) : Statement (.eorImm x0 x1 x2 x3 x4 x5) := by
  simp [Statement, encode, Instr.cond]
theorem eorShi (x0 : Cond) (x1 : Bool) (x2 : RegNum) (x3 : RegNum) (x4 : BitVec 5) (x5 : ShiftKind) (x6 : RegNum) : Statement (.eorShi x0 x1 x2 x3 x4 x5 x6) := by
  simp [Statement, encode, Instr.cond]
theorem eorShr (x0 : Cond) (x1 : Bool) (x2 : RegNum) (x3 : RegNum) (x4 : RegNum) (x5 : ShiftKind) (x6 : RegNum) : Statement (.eorShr x0 x1 x2 x3 x4 x5 x6) := by
  simp [Statement, encode, Instr.cond]
theorem subImm (x0 : Cond) (x1 : Bool) (x2 : RegNum) (x3 : RegNum) (x4 : BitVec 4) (x5 : BitVec 8) : Statement (.subImm x0 x1 x2 x3 x4 x5) := by
  simp [Statement, encode, Instr.cond]
theorem subShi (x0 : Cond) (x1 : Bool) (x2 : RegNum) (x3 : RegNum) (x4 : BitVec 5) (x5 : ShiftKind) (x6 : RegNum) : Statement (.subShi x0 x1 x2 x3 x4 x5 x6) := by
  simp [Statement, encode, Instr.cond]
theorem subShr (x0 : Cond) (x1 : Bool) (x2 : RegNum) (x3 : RegNum) (x4 : RegNum) (x5 : ShiftKind) (x6 : RegNum) : Statement (.subShr x0 x1 x2 x3 x4 x5 x6) := by
  simp [Statement, encode, Instr.cond]
theorem rsbImm (x0 : Cond) (x1 : Bool) (x2 : RegNum) (x3 : RegNum) (x4 : BitVec 4) (x5 : BitVec 8) : Statement (.rsbImm x0 x1 x2 x3 x4 x5) := by
  simp [Statement, encode, Instr.cond]
theorem rsbShi (x0 : Cond) (x1 : Bool) (x2 : RegNum) (x3 : RegNum) (x4 : BitVec 5) (x5 : ShiftKind) (x6 : RegNum) : Statement (.rsbShi x0 x1 x2 x3 x4 x5 x6) := by
  simp [Statement, encode, Instr.cond]
theorem rsbShr (x0 : Cond) (x1 : Bool) (x2 : RegNum) (x3 : RegNum) (x4 : RegNum) (x5 : ShiftKind) (x6 : RegNum) : Statement (.rsbShr x0 x1 x2 x3 x4 x5 x6) := by
  simp [Statement, encode, Instr.cond]
theorem addImm (x0 : Cond) (x1 : Bool) (x2 : RegNum) (x3 : RegNum) (x4 : BitVec 4) (x5 : BitVec 8) : Statement (.addImm x0 x1 x2 x3 x4 x5) := by
  simp [Statement, encode, Instr.cond]
theorem addShi (x0 : Cond) (x1 : Bool) (x2 : RegNum) (x3 : RegNum) (x4 : BitVec 5) (x5 : ShiftKind) (x6 : RegNum) : Statement (.addShi x0 x1 x2 x3 x4 x5 x6) := by
  simp [Statement, encode, Instr.cond]
theorem addShr (x0 : Cond) (x1 : Bool) (x2 : RegNum) (x3 : RegNum) (x4 : RegNum) (x5 : ShiftKind) (x6 : RegNum) : Statement (.addShr x0 x1 x2 x3 x4 x5 x6) := by
  simp [Statement, encode, Instr.cond]
theorem adcImm (x0 : Cond) (x1 : Bool) (x2 : RegNum) (x3 : RegNum) (x4 : BitVec 4) (x5 : BitVec 8) : Statement (.adcImm x0 x1 x2 x3 x4 x5) := by
  simp [Statement, encode, Instr.cond]
theorem adcShi (x0 : Cond) (x1 : Bool) (x2 : RegNum) (x3 : RegNum) (x4 : BitVec 5) (x5 : ShiftKind) (x6 : RegNum) : Statement (.adcShi x0 x1 x2 x3 x4 x5 x6) := by
  simp [Statement, encode, Instr.cond]
theorem adcShr (x0 : Cond) (x1 : Bool) (x2 : RegNum) (x3 : RegNum) (x4 : RegNum) (x5 : ShiftKind) (x6 : RegNum) : Statement (.adcShr x0 x1 x2 x3 x4 x5 x6) := by
  simp [Statement, encode, Instr.cond]
theorem sbcImm (x0 : Cond) (x1 : Bool) (x2 : RegNum) (x3 : RegNum) (x4 : BitVec 4) (x5 : BitVec 8) : Statement (.sbcImm x0 x1 x2 x3 x4 x5) := by
  simp [Statement, encode, Instr.cond]
theorem sbcShi (x0 : Cond) (x1 : Bool) (x2 : RegNum) (x3 : RegNum) (x4 : BitVec 5) (x5 : ShiftKind) (x6 : RegNum) : Statement (.sbcShi x0 x1 x2 x3 x4 x5 x6) := by
  simp [Statement, encode, Instr.cond]
theorem sbcShr (x0 : Cond) (x1 : Bool) (x2 : RegNum) (x3 : RegNum) (x4 : RegNum) (x5 : ShiftKind) (x6 : RegNum) : Statement (.sbcShr x0 x1 x2 x3 x4 x5 x6) := by
  simp [Statement, encode, Instr.cond]
theorem rscImm (x0 : Cond) (x1 : Bool) (x2 : RegNum) (x3 : RegNum) (x4 : BitVec 4) (x5 : BitVec 8) : Statement (.rscImm x0 x1 x2 x3 x4 x5) := by
  simp [Statement, encode, Instr.cond]
theorem rscShi (x0 : Cond) (x1 : Bool) (x2 : RegNum) (x3 : RegNum) (x4 : BitVec 5) (x5 : ShiftKind) (x6 : RegNum) : Statement (.rscShi x0 x1 x2 x3 x4 x5 x6) := by
  simp [Statement, encode, Instr.cond]
theorem rscShr (x0 : Cond) (x1 : Bool) (x2 : RegNum) (x3 : RegNum) (x4 : RegNum) (x5 : ShiftKind) (x6 : RegNum) : Statement (.rscShr x0 x1 x2 x3 x4 x5 x6) := by
  simp [Statement, encode, Instr.cond]
theorem tstImm (x0 : Cond) (x1 : RegNum) (x2 : RegNum) (x3 : BitVec 4) (x4 : BitVec 8) : Statement (.tstImm x0 x1 x2 x3 x4) := by
  simp [Statement, encode, Instr.cond]
theorem tstShi (x0 : Cond) (x1 : RegNum) (x2 : RegNum) (x3 : BitVec 5) (x4 : ShiftKind) (x5 : RegNum) : Statement (.tstShi x0 x1 x2 x3 x4 x5) := by
  simp [Statement, encode, Instr.cond]
theorem tstShr (x0 : Cond) (x1 : RegNum) (x2 : RegNum) (x3 : RegNum) (x4 : ShiftKind) (x5 : RegNum) : Statement (.tstShr x0 x1 x2 x3 x4 x5) := by
  simp [Statement, encode, Instr.cond]
theorem teqImm (x0 : Cond) (x1 : RegNum) (x2 : RegNum) (x3 : BitVec 4) (x4 : BitVec 8) : Statement (.teqImm x0 x1 x2 x3 x4) := by
  simp [Statement, encode, Instr.cond]
theorem teqShi (x0 : Cond) (x1 : RegNum) (x2 : RegNum) (x3 : BitVec 5) (x4 : ShiftKind) (x5 : RegNum) : Statement (.teqShi x0 x1 x2 x3 x4 x5) := by
  simp [Statement, encode, Instr.cond]
theorem teqShr (x0 : Cond) (x1 : RegNum) (x2 : RegNum) (x3 : RegNum) (x4 : ShiftKind) (x5 : RegNum) : Statement (.teqShr x0 x1 x2 x3 x4 x5) := by
  simp [Statement, encode, Instr.cond]
theorem cmpImm (x0 : Cond) (x1 : RegNum) (x2 : RegNum) (x3 : BitVec 4) (x4 : BitVec 8) : Statement (.cmpImm x0 x1 x2 x3 x4) := by
  simp [Statement, encode, Instr.cond]
theorem cmpShi (x0 : Cond) (x1 : RegNum) (x2 : RegNum) (x3 : BitVec 5) (x4 : ShiftKind) (x5 : RegNum) : Statement (.cmpShi x0 x1 x2 x3 x4 x5) := by
  simp [Statement, encode, Instr.cond]
theorem cmpShr (x0 : Cond) (x1 : RegNum) (x2 : RegNum) (x3 : RegNum) (x4 : ShiftKind) (x5 : RegNum) : Statement (.cmpShr x0 x1 x2 x3 x4 x5) := by
  simp [Statement, encode, Instr.cond]
theorem cmnImm (x0 : Cond) (x1 : RegNum) (x2 : RegNum) (x3 : BitVec 4) (x4 : BitVec 8) : Statement (.cmnImm x0 x1 x2 x3 x4) := by
  simp [Statement, encode, Instr.cond]
theorem cmnShi (x0 : Cond) (x1 : RegNum) (x2 : RegNum) (x3 : BitVec 5) (x4 : ShiftKind) (x5 : RegNum) : Statement (.cmnShi x0 x1 x2 x3 x4 x5) := by
  simp [Statement, encode, Instr.cond]
theorem cmnShr (x0 : Cond) (x1 : RegNum) (x2 : RegNum) (x3 : RegNum) (x4 : ShiftKind) (x5 : RegNum) : Statement (.cmnShr x0 x1 x2 x3 x4 x5) := by
  simp [Statement, encode, Instr.cond]
theorem orrImm (x0 : Cond) (x1 : Bool) (x2 : RegNum) (x3 : RegNum) (x4 : BitVec 4) (x5 : BitVec 8) : Statement (.orrImm x0 x1 x2 x3 x4 x5) := by
  simp [Statement, encode, Instr.cond]
theorem orrShi (x0 : Cond) (x1 : Bool) (x2 : RegNum) (x3 : RegNum) (x4 : BitVec 5) (x5 : ShiftKind) (x6 : RegNum) : Statement (.orrShi x0 x1 x2 x3 x4 x5 x6) := by
  simp [Statement, encode, Instr.cond]
theorem orrShr (x0 : Cond) (x1 : Bool) (x2 : RegNum) (x3 : RegNum) (x4 : RegNum) (x5 : ShiftKind) (x6 : RegNum) : Statement (.orrShr x0 x1 x2 x3 x4 x5 x6) := by
  simp [Statement, encode, Instr.cond]
theorem movImm (x0 : Cond) (x1 : Bool) (x2 : RegNum) (x3 : RegNum) (x4 : BitVec 4) (x5 : BitVec 8) : Statement (.movImm x0 x1 x2 x3 x4 x5) := by
  simp [Statement, encode, Instr.cond]
theorem movShi (x0 : Cond) (x1 : Bool) (x2 : RegNum) (x3 : RegNum) (x4 : BitVec 5) (x5 : ShiftKind) (x6 : RegNum) : Statement (.movShi x0 x1 x2 x3 x4 x5 x6) := by
  simp [Statement, encode, Instr.cond]
theorem movShr (x0 : Cond) (x1 : Bool) (x2 : RegNum) (x3 : RegNum) (x4 : RegNum) (x5 : ShiftKind) (x6 : RegNum) : Statement (.movShr x0 x1 x2 x3 x4 x5 x6) := by
  simp [Statement, encode, Instr.cond]
theorem bicImm (x0 : Cond) (x1 : Bool) (x2 : RegNum) (x3 : RegNum) (x4 : BitVec 4) (x5 : BitVec 8) : Statement (.bicImm x0 x1 x2 x3 x4 x5) := by
  simp [Statement, encode, Instr.cond]
theorem bicShi (x0 : Cond) (x1 : Bool) (x2 : RegNum) (x3 : RegNum) (x4 : BitVec 5) (x5 : ShiftKind) (x6 : RegNum) : Statement (.bicShi x0 x1 x2 x3 x4 x5 x6) := by
  simp [Statement, encode, Instr.cond]
theorem bicShr (x0 : Cond) (x1 : Bool) (x2 : RegNum) (x3 : RegNum) (x4 : RegNum) (x5 : ShiftKind) (x6 : RegNum) : Statement (.bicShr x0 x1 x2 x3 x4 x5 x6) := by
  simp [Statement, encode, Instr.cond]
theorem mvnImm (x0 : Cond) (x1 : Bool) (x2 : RegNum) (x3 : RegNum) (x4 : BitVec 4) (x5 : BitVec 8) : Statement (.mvnImm x0 x1 x2 x3 x4 x5) := by
  simp [Statement, encode, Instr.cond]
theorem mvnShi (x0 : Cond) (x1 : Bool) (x2 : RegNum) (x3 : RegNum) (x4 : BitVec 5) (x5 : ShiftKind) (x6 : RegNum) : Statement (.mvnShi x0 x1 x2 x3 x4 x5 x6) := by
  simp [Statement, encode, Instr.cond]
theorem mvnShr (x0 : Cond) (x1 : Bool) (x2 : RegNum) (x3 : RegNum) (x4 : RegNum) (x5 : ShiftKind) (x6 : RegNum) : Statement (.mvnShr x0 x1 x2 x3 x4 x5 x6) := by
  simp [Statement, encode, Instr.cond]
theorem mul (x0 : Cond) (x1 : Bool) (x2 : RegNum) (x3 : RegNum) (x4 : RegNum) (x5 : RegNum) : Statement (.mul x0 x1 x2 x3 x4 x5) := by
  simp [Statement, encode, Instr.cond]
theorem mla (x0 : Cond) (x1 : Bool) (x2 : RegNum) (x3 : RegNum) (x4 : RegNum) (x5 : RegNum) : Statement (.mla x0 x1 x2 x3 x4 x5) := by
  simp [Statement, encode, Instr.cond]
theorem umull (x0 : Cond) (x1 : Bool) (x2 : RegNum) (x3 : RegNum) (x4 : RegNum) (x5 : RegNum) : Statement (.umull x0 x1 x2 x3 x4 x5) := by
  simp [Statement, encode, Instr.cond]
theorem umlal (x0 : Cond) (x1 : Bool) (x2 : RegNum) (x3 : RegNum) (x4 : RegNum) (x5 : RegNum) : Statement (.umlal x0 x1 x2 x3 x4 x5) := by
  simp [Statement, encode, Instr.cond]
theorem smull (x0 : Cond) (x1 : Bool) (x2 : RegNum) (x3 : RegNum) (x4 : RegNum) (x5 : RegNum) : Statement (.smull x0 x1 x2 x3 x4 x5) := by
  simp [Statement, encode, Instr.cond]
theorem smlal (x0 : Cond) (x1 : Bool) (x2 : RegNum) (x3 : RegNum) (x4 : RegNum) (x5 : RegNum) : Statement (.smlal x0 x1 x2 x3 x4 x5) := by
  simp [Statement, encode, Instr.cond]
theorem swp (x0 : Cond) (x1 : RegNum) (x2 : RegNum) (x3 : RegNum) : Statement (.swp x0 x1 x2 x3) := by
  simp [Statement, encode, Instr.cond]
theorem swpb (x0 : Cond) (x1 : RegNum) (x2 : RegNum) (x3 : RegNum) : Statement (.swpb x0 x1 x2 x3) := by
  simp [Statement, encode, Instr.cond]
theorem bx (x0 : Cond) (x1 : RegNum) : Statement (.bx x0 x1) := by
  simp (disch := omega) [Statement, encode, Instr.cond, field_put_above]
theorem mrs (x0 : Cond) (x1 : Bool) (x2 : RegNum) : Statement (.mrs x0 x1 x2) := by
  simp (disch := omega) [Statement, encode, Instr.cond, field_put_above, field_putBit_out]
theorem msrReg (x0 : Cond) (x1 : Bool) (x2 : BitVec 4) (x3 : RegNum) : Statement (.msrReg x0 x1 x2 x3) := by
  simp (disch := omega) [Statement, encode, Instr.cond, field_put_above, field_putBit_out]
theorem msrImm (x0 : Cond) (x1 : Bool) (x2 : BitVec 4) (x3 : BitVec 4) (x4 : BitVec 8) : Statement (.msrImm x0 x1 x2 x3 x4) := by
  simp (disch := omega) [Statement, encode, Instr.cond, field_put_above, field_putBit_out]
theorem strhReg (x0 : Cond) (x1 : Bool) (x2 : Bool) (x3 : Bool) (x4 : RegNum) (x5 : RegNum) (x6 : RegNum) : Statement (.strhReg x0 x1 x2 x3 x4 x5 x6) := by
  simp [Statement, encode, Instr.cond]
theorem strhImm (x0 : Cond) (x1 : Bool) (x2 : Bool) (x3 : Bool) (x4 : RegNum) (x5 : RegNum) (x6 : BitVec 8) : Statement (.strhImm x0 x1 x2 x3 x4 x5 x6) := by
  simp [Statement, encode, Instr.cond]
theorem ldrhReg (x0 : Cond) (x1 : Bool) (x2 : Bool) (x3 : Bool) (x4 : RegNum) (x5 : RegNum) (x6 : RegNum) : Statement (.ldrhReg x0 x1 x2 x3 x4 x5 x6) := by
  simp [Statement, encode, Instr.cond]
theorem ldrhImm (x0 : Cond) (x1 : Bool) (x2 : Bool) (x3 : Bool) (x4 : RegNum) (x5 : RegNum) (x6 : BitVec 8) : Statement (.ldrhImm x0 x1 x2 x3 x4 x5 x6) := by
  simp [Statement, encode, Instr.cond]
theorem ldrsbReg (x0 : Cond) (x1 : Bool) (x2 : Bool) (x3 : Bool) (x4 : RegNum) (x5 : RegNum) (x6 : RegNum) : Statement (.ldrsbReg x0 x1 x2 x3 x4 x5 x6) := by
  simp [Statement, encode, Instr.cond]
theorem ldrsbImm (x0 : Cond) (x1 : Bool) (x2 : Bool) (x3 : Bool) (x4 : RegNum) (x5 : RegNum) (x6 : BitVec 8) : Statement (.ldrsbImm x0 x1 x2 x3 x4 x5 x6) := by
  simp [Statement, encode, Instr.cond]
theorem ldrshReg (x0 : Cond) (x1 : Bool) (x2 : Bool) (x3 : Bool) (x4 : RegNum) (x5 : RegNum) (x6 : RegNum) : Statement (.ldrshReg x0 x1 x2 x3 x4 x5 x6) := by
  simp [Statement, encode, Instr.cond]
theorem ldrshImm (x0 : Cond) (x1 : Bool) (x2 : Bool) (x3 : Bool) (x4 : RegNum) (x5 : RegNum) (x6 : BitVec 8) : Statement (.ldrshImm x0 x1 x2 x3 x4 x5 x6) := by
  simp [Statement, encode, Instr.cond]
theorem strPreImm (x0 : Cond) (x1 : Bool) (x2 : Bool) (x3 : RegNum) (x4 : RegNum) (x5 : BitVec 12) : Statement (.strPreImm x0 x1 x2 x3 x4 x5) := by
  simp [Statement, encode, Instr.cond]
theorem strPostImm (x0 : Cond) (x1 : Bool) (x2 : RegNum) (x3 : RegNum) (x4 : BitVec 12) : Statement (.strPostImm x0 x1 x2 x3 x4) := by
  simp [Statement, encode, Instr.cond]
theorem strtImm (x0 : Cond) (x1 : Bool) (x2 : RegNum) (x3 : RegNum) (x4 : BitVec 12) : Statement (.strtImm x0 x1 x2 x3 x4) := by
  simp [Statement, encode, Instr.cond]
theorem strPreReg (x0 : Cond) (x1 : Bool) (x2 : Bool) (x3 : RegNum) (x4 : RegNum) (x5 : BitVec 5) (x6 : ShiftKind) (x7 : RegNum) : Statement (.strPreReg x0 x1 x2 x3 x4 x5 x6 x7) := by
  simp [Statement, encode, Instr.cond]
theorem strPostReg (x0 : Cond) (x1 : Bool) (x2 : RegNum) (x3 : RegNum) (x4 : BitVec 5) (x5 : ShiftKind) (x6 : RegNum) : Statement (.strPostReg x0 x1 x2 x3 x4 x5 x6) := by
  simp [Statement, encode, Instr.cond]
theorem strtReg (x0 : Cond) (x1 : Bool) (x2 : RegNum) (x3 : RegNum) (x4 : BitVec 5) (x5 : ShiftKind) (x6 : RegNum) : Statement (.strtReg x0 x1 x2 x3 x4 x5 x6) := by
  simp [Statement, encode, Instr.cond]
theorem ldrPreImm (x0 : Cond) (x1 : Bool) (x2 : Bool) (x3 : RegNum) (x4 : RegNum) (x5 : BitVec 12) : Statement (.ldrPreImm x0 x1 x2 x3 x4 x5) := by
  simp [Statement, encode, Instr.cond]
theorem ldrPostImm (x0 : Cond) (x1 : Bool) (x2 : RegNum) (x3 : RegNum) (x4 : BitVec 12) : Statement (.ldrPostImm x0 x1 x2 x3 x4) := by
  simp [Statement, encode, Instr.cond]
theorem ldrtImm (x0 : Cond) (x1 : Bool) (x2 : RegNum) (x3 : RegNum) (x4 : BitVec 12) : Statement (.ldrtImm x0 x1 x2 x3 x4) := by
  simp [Statement, encode, Instr.cond]
theorem ldrPreReg (x0 : Cond) (x1 : Bool) (x2 : Bool) (x3 : RegNum) (x4 : RegNum) (x5 : BitVec 5) (x6 : ShiftKind) (x7 : RegNum) : Statement (.ldrPreReg x0 x1 x2 x3 x4 x5 x6 x7) := by
  simp [Statement, encode, Instr.cond]
theorem ldrPostReg (x0 : Cond) (x1 : Bool) (x2 : RegNum) (x3 : RegNum) (x4 : BitVec 5) (x5 : ShiftKind) (x6 : RegNum) : Statement (.ldrPostReg x0 x1 x2 x3 x4 x5 x6) := by
  simp [Statement, encode, Instr.cond]
theorem ldrtReg (x0 : Cond) (x1 : Bool) (x2 : RegNum) (x3 : RegNum) (x4 : BitVec 5) (x5 : ShiftKind) (x6 : RegNum) : Statement (.ldrtReg x0 x1 x2 x3 x4 x5 x6) := by
  simp [Statement, encode, Instr.cond]
theorem strbPreImm (x0 : Cond) (x1 : Bool) (x2 : Bool) (x3 : RegNum) (x4 : RegNum) (x5 : BitVec 12) : Statement (.strbPreImm x0 x1 x2 x3 x4 x5) := by
  simp [Statement, encode, Instr.cond]
theorem strbPostImm (x0 : Cond) (x1 : Bool) (x2 : RegNum) (x3 : RegNum) (x4 : BitVec 12) : Statement (.strbPostImm x0 x1 x2 x3 x4) := by
  simp [Statement, encode, Instr.cond]
theorem strbtImm (x0 : Cond) (x1 : Bool) (x2 : RegNum) (x3 : RegNum) (x4 : BitVec 12) : Statement (.strbtImm x0 x1 x2 x3 x4) := by
  simp [Statement, encode, Instr.cond]
theorem strbPreReg (x0 : Cond) (x1 : Bool) (x2 : Bool) (x3 : RegNum) (x4 : RegNum) (x5 : BitVec 5) (x6 : ShiftKind) (x7 : RegNum) : Statement (.strbPreReg x0 x1 x2 x3 x4 x5 x6 x7) := by
  simp [Statement, encode, Instr.cond]
theorem strbPostReg (x0 : Cond) (x1 : Bool) (x2 : RegNum) (x3 : RegNum) (x4 : BitVec 5) (x5 : ShiftKind) (x6 : RegNum) : Statement (.strbPostReg x0 x1 x2 x3 x4 x5 x6) := by
  simp [Statement, encode, Instr.cond]
theorem strbtReg (x0 : Cond) (x1 : Bool) (x2 : RegNum) (x3 : RegNum) (x4 : BitVec 5) (x5 : ShiftKind) (x6 : RegNum) : Statement (.strbtReg x0 x1 x2 x3 x4 x5 x6) := by
  simp [Statement, encode, Instr.cond]
theorem ldrbPreImm (x0 : Cond) (x1 : Bool) (x2 : Bool) (x3 : RegNum) (x4 : RegNum) (x5 : BitVec 12) : Statement (.ldrbPreImm x0 x1 x2 x3 x4 x5) := by
  simp [Statement, encode, Instr.cond]
theorem ldrbPostImm (x0 : Cond) (x1 : Bool) (x2 : RegNum) (x3 : RegNum) (x4 : BitVec 12) : Statement (.ldrbPostImm x0 x1 x2 x3 x4) := by
  simp [Statement, encode, Instr.cond]
theorem ldrbtImm (x0 : Cond) (x1 : Bool) (x2 : RegNum) (x3 : RegNum) (x4 : BitVec 12) : Statement (.ldrbtImm x0 x1 x2 x3 x4) := by
  simp [Statement, encode, Instr.cond]
theorem ldrbPreReg (x0 : Cond) (x1 : Bool) (x2 : Bool) (x3 : RegNum) (x4 : RegNum) (x5 : BitVec 5) (x6 : ShiftKind) (x7 : RegNum) : Statement (.ldrbPreReg x0 x1 x2 x3 x4 x5 x6 x7) := by
  simp [Statement, encode, Instr.cond]
theorem ldrbPostReg (x0 : Cond) (x1 : Bool) (x2 : RegNum) (x3 : RegNum) (x4 : BitVec 5) (x5 : ShiftKind) (x6 : RegNum) : Statement (.ldrbPostReg x0 x1 x2 x3 x4 x5 x6) := by
  simp [Statement, encode, Instr.cond]
theorem ldrbtReg (x0 : Cond) (x1 : Bool) (x2 : RegNum) (x3 : RegNum) (x4 : BitVec 5) (x5 : ShiftKind) (x6 : RegNum) : Statement (.ldrbtReg x0 x1 x2 x3 x4 x5 x6) := by
  simp [Statement, encode, Instr.cond]
theorem undefined (x0 : Cond) (x1 : BitVec 20) (x2 : BitVec 4) : Statement (.undefined x0 x1 x2) := by
  simp (disch := omega) [Statement, encode, Instr.cond, field_put_above]
theorem ldmia (x0 : Cond) (x1 : Bool) (x2 : Bool) (x3 : RegNum) (x4 : BitVec 16) : Statement (.ldmia x0 x1 x2 x3 x4) := by
  simp [Statement, encode, Instr.cond]
theorem ldmib (x0 : Cond) (x1 : Bool) (x2 : Bool) (x3 : RegNum) (x4 : BitVec 16) : Statement (.ldmib x0 x1 x2 x3 x4) := by
  simp [Statement, encode, Instr.cond]
theorem ldmda (x0 : Cond) (x1 : Bool) (x2 : Bool) (x3 : RegNum) (x4 : BitVec 16) : Statement (.ldmda x0 x1 x2 x3 x4) := by
  simp [Statement, encode, Instr.cond]
theorem ldmdb (x0 : Cond) (x1 : Bool) (x2 : Bool) (x3 : RegNum) (x4 : BitVec 16) : Statement (.ldmdb x0 x1 x2 x3 x4) := by
  simp [Statement, encode, Instr.cond]
theorem stmia (x0 : Cond) (x1 : Bool) (x2 : Bool) (x3 : RegNum) (x4 : BitVec 16) : Statement (.stmia x0 x1 x2 x3 x4) := by
  simp [Statement, encode, Instr.cond]
theorem stmib (x0 : Cond) (x1 : Bool) (x2 : Bool) (x3 : RegNum) (x4 : BitVec 16) : Statement (.stmib x0 x1 x2 x3 x4) := by
  simp [Statement, encode, Instr.cond]
theorem stmda (x0 : Cond) (x1 : Bool) (x2 : Bool) (x3 : RegNum) (x4 : BitVec 16) : Statement (.stmda x0 x1 x2 x3 x4) := by
  simp [Statement, encode, Instr.cond]
theorem stmdb (x0 : Cond) (x1 : Bool) (x2 : Bool) (x3 : RegNum) (x4 : BitVec 16) : Statement (.stmdb x0 x1 x2 x3 x4) := by
  simp [Statement, encode, Instr.cond]
theorem b (x0 : Cond) (x1 : BitVec 24) : Statement (.b x0 x1) := by
  simp (disch := omega) [Statement, encode, Instr.cond, field_put_above]
theorem bl (x0 : Cond) (x1 : BitVec 24) : Statement (.bl x0 x1) := by
  simp (disch := omega) [Statement, encode, Instr.cond, field_put_above]
theorem ldc (x0 : Cond) (x1 : Bool) (x2 : Bool) (x3 : Bool) (x4 : Bool) (x5 : RegNum) (x6 : BitVec 4) (x7 : BitVec 4) (x8 : BitVec 8) : Statement (.ldc x0 x1 x2 x3 x4 x5 x6 x7 x8) := by
  simp [Statement, encode, Instr.cond]
theorem stc (x0 : Cond) (x1 : Bool) (x2 : Bool) (x3 : Bool) (x4 : Bool) (x5 : RegNum) (x6 : BitVec 4) (x7 : BitVec 4) (x8 : BitVec 8) : Statement (.stc x0 x1 x2 x3 x4 x5 x6 x7 x8) := by
  simp [Statement, encode, Instr.cond]
theorem cdp (x0 : Cond) (x1 : BitVec 4) (x2 : BitVec 4) (x3 : BitVec 4) (x4 : BitVec 4) (x5 : BitVec 3) (x6 : BitVec 4) : Statement (.cdp x0 x1 x2 x3 x4 x5 x6) := by
  simp (disch := omega) [Statement, encode, Instr.cond, field_put_above]
theorem mcr (x0 : Cond) (x1 : BitVec 3) (x2 : BitVec 4) (x3 : RegNum) (x4 : BitVec 4) (x5 : BitVec 3) (x6 : BitVec 4) : Statement (.mcr x0 x1 x2 x3 x4 x5 x6) := by
  simp [Statement, encode, Instr.cond]
theorem mrc (x0 : Cond) (x1 : BitVec 3) (x2 : BitVec 4) (x3 : RegNum) (x4 : BitVec 4) (x5 : BitVec 3) (x6 : BitVec 4) : Statement (.mrc x0 x1 x2 x3 x4 x5 x6) := by
  simp [Statement, encode, Instr.cond]
theorem swi (x0 : Cond) (x1 : BitVec 24) : Statement (.swi x0 x1) := by
  simp (disch := omega) [Statement, encode, Instr.cond, field_put_above]

end Laws.CondField

end Sys2Proof
end

