-- ==== Sys2Proof/Tests/Slice0.lean ====
section
/-! SUPPORT. The model's own tests: the word of every row of the opcode table, the well-formedness checks, one step of every
instruction, every fault and refusal, the exceptions; and for every statement with hypotheses a state and operands that
meet them. Expected results are those of `95_test_vectors.md` or hand calculations from the rules. -/

-- One theorem after the other: hundreds at once ask for hundreds of thread stacks, more than the checker's memory limit.
set_option Elab.async false

namespace Sys2Proof.Tests

open Sys2Proof.Machine Sys2Proof.Claims

/-! ## Decoding: for every row, its fixed bits and fields written out from the table, most significant bit first -/

theorem test_decode_andImm : decode 0b1110_0010000_1_0110_0011_1011_00001101 = .ok (.andImm .al true 6 3 11 13) := by decide
theorem test_decode_andShi : decode 0b0001_0000000_0_0010_1110_01100_11_0_0001 = .ok (.andShi .ne false 2 14 12 .ror 1) := by decide
theorem test_decode_andShr : decode 0b1110_0000000_0_1111_1001_0001_0_01_1_0111 = .ok (.andShr .al false 15 9 1 .lsr 7) := by decide
theorem test_decode_eorImm : decode 0b1110_0010001_0_0111_0010_1001_01101101 = .ok (.eorImm .al false 7 2 9 0x6d) := by decide
theorem test_decode_eorShi : decode 0b0100_0000001_0_0001_1110_11111_01_0_1011 = .ok (.eorShi .mi false 1 14 0x1f .lsr 11) := by decide
theorem test_decode_eorShr : decode 0b1110_0000001_0_1011_1010_0111_0_01_1_0100 = .ok (.eorShr .al false 11 10 7 .lsr 4) := by decide
theorem test_decode_subImm : decode 0b1110_0010010_0_0001_1001_0101_01101100 = .ok (.subImm .al false 1 9 5 0x6c) := by decide
theorem test_decode_subShi : decode 0b0111_0000010_0_0011_1001_10011_10_0_1110 = .ok (.subShi .vc false 3 9 0x13 .asr 14) := by decide
theorem test_decode_subShr : decode 0b1110_0000010_0_1011_0011_1010_0_11_1_0100 = .ok (.subShr .al false 11 3 10 .ror 4) := by decide
theorem test_decode_rsbImm : decode 0b1110_0010011_0_0110_0010_1010_00010000 = .ok (.rsbImm .al false 6 2 10 0x10) := by decide
theorem test_decode_rsbShi : decode 0b1010_0000011_1_1010_0100_10110_11_0_0111 = .ok (.rsbShi .ge true 10 4 0x16 .ror 7) := by decide
theorem test_decode_rsbShr : decode 0b1110_0000011_1_1101_0110_1010_0_10_1_0101 = .ok (.rsbShr .al true 13 6 10 .asr 5) := by decide
theorem test_decode_addImm : decode 0b1110_0010100_0_0100_1101_1100_11001000 = .ok (.addImm .al false 4 13 12 0xc8) := by decide
theorem test_decode_addShi : decode 0b1101_0000100_1_0100_0010_10001_10_0_1111 = .ok (.addShi .le true 4 2 0x11 .asr 15) := by decide
theorem test_decode_addShr : decode 0b1110_0000100_1_0110_1100_0101_0_11_1_0010 = .ok (.addShr .al true 6 12 5 .ror 2) := by decide
theorem test_decode_adcImm : decode 0b1110_0010101_1_0010_1001_0011_11000010 = .ok (.adcImm .al true 2 9 3 0xc2) := by decide
theorem test_decode_adcShi : decode 0b0001_0000101_1_0110_0011_01110_01_0_1011 = .ok (.adcShi .ne true 6 3 14 .lsr 11) := by decide
theorem test_decode_adcShr : decode 0b1110_0000101_1_0010_1101_0110_0_11_1_1010 = .ok (.adcShr .al true 2 13 6 .ror 10) := by decide
theorem test_decode_sbcImm : decode 0b1110_0010110_1_1000_1010_0010_11011000 = .ok (.sbcImm .al true 8 10 2 0xd8) := by decide
theorem test_decode_sbcShi : decode 0b0100_0000110_1_0010_0101_10111_11_0_0001 = .ok (.sbcShi .mi true 2 5 0x17 .ror 1) := by decide
theorem test_decode_sbcShr : decode 0b1110_0000110_1_1100_0101_0111_0_11_1_0110 = .ok (.sbcShr .al true 12 5 7 .ror 6) := by decide
theorem test_decode_rscImm : decode 0b1110_0010111_1_0001_1000_0011_10011101 = .ok (.rscImm .al true 1 8 3 0x9d) := by decide
theorem test_decode_rscShi : decode 0b0111_0000111_0_0010_1000_00111_10_0_0011 = .ok (.rscShi .vc false 2 8 7 .asr 3) := by decide
theorem test_decode_rscShr : decode 0b1110_0000111_1_1100_0100_0111_0_10_1_0011 = .ok (.rscShr .al true 12 4 7 .asr 3) := by decide
theorem test_decode_tstImm : decode 0b1110_00110001_1000_0111_1001_01001000 = .ok (.tstImm .al 8 7 9 0x48) := by decide
theorem test_decode_tstShi : decode 0b1010_00010001_1111_0011_11011_10_0_1110 = .ok (.tstShi .ge 15 3 0x1b .asr 14) := by decide
theorem test_decode_tstShr : decode 0b1110_00010001_1001_0101_1100_0_10_1_0110 = .ok (.tstShr .al 9 5 12 .asr 6) := by decide
theorem test_decode_teqImm : decode 0b1110_00110011_1011_1111_0111_11110110 = .ok (.teqImm .al 11 15 7 0xf6) := by decide
theorem test_decode_teqShi : decode 0b1101_00010011_0100_0011_00110_01_0_1011 = .ok (.teqShi .le 4 3 6 .lsr 11) := by decide
theorem test_decode_teqShr : decode 0b1110_00010011_0100_0001_1000_0_11_1_0101 = .ok (.teqShr .al 4 1 8 .ror 5) := by decide
theorem test_decode_cmpImm : decode 0b1110_00110101_0101_0001_0011_01101100 = .ok (.cmpImm .al 5 1 3 0x6c) := by decide
theorem test_decode_cmpShi : decode 0b0001_00010101_1001_0110_10100_11_0_1100 = .ok (.cmpShi .ne 9 6 0x14 .ror 12) := by decide
theorem test_decode_cmpShr : decode 0b1110_00010101_1110_1001_1010_0_11_1_1011 = .ok (.cmpShr .al 14 9 10 .ror 11) := by decide
theorem test_decode_cmnImm : decode 0b1110_00110111_1100_0001_1000_11100111 = .ok (.cmnImm .al 12 1 8 0xe7) := by decide
theorem test_decode_cmnShi : decode 0b0100_00010111_1110_1101_11111_11_0_1001 = .ok (.cmnShi .mi 14 13 0x1f .ror 9) := by decide
theorem test_decode_cmnShr : decode 0b1110_00010111_0111_0010_1000_0_11_1_0001 = .ok (.cmnShr .al 7 2 8 .ror 1) := by decide
theorem test_decode_orrImm : decode 0b1110_0011100_0_0100_0010_1000_00101010 = .ok (.orrImm .al false 4 2 8 0x2a) := by decide
theorem test_decode_orrShi : decode 0b0111_0001100_0_0010_0110_00100_01_0_1010 = .ok (.orrShi .vc false 2 6 4 .lsr 10) := by decide
theorem test_decode_orrShr : decode 0b1110_0001100_0_0011_1001_0110_0_11_1_0001 = .ok (.orrShr .al false 3 9 6 .ror 1) := by decide
theorem test_decode_movImm : decode 0b1110_0011101_0_1010_0010_0111_00100111 = .ok (.movImm .al false 10 2 7 0x27) := by decide
theorem test_decode_movShi : decode 0b1010_0001101_1_0110_1011_10100_10_0_1000 = .ok (.movShi .ge true 6 11 0x14 .asr 8) := by decide
theorem test_decode_movShr : decode 0b1110_0001101_0_1110_0010_1000_0_10_1_0101 = .ok (.movShr .al false 14 2 8 .asr 5) := by decide
theorem test_decode_bicImm : decode 0b1110_0011110_0_0010_0011_1100_01011000 = .ok (.bicImm .al false 2 3 12 0x58) := by decide
theorem test_decode_bicShi : decode 0b1101_0001110_1_1100_0101_11011_11_0_1001 = .ok (.bicShi .le true 12 5 0x1b .ror 9) := by decide
theorem test_decode_bicShr : decode 0b1110_0001110_1_0001_0100_0011_0_11_1_1001 = .ok (.bicShr .al true 1 4 3 .ror 9) := by decide
theorem test_decode_mvnImm : decode 0b1110_0011111_0_1101_1111_1001_01001101 = .ok (.mvnImm .al false 13 15 9 0x4d) := by decide
theorem test_decode_mvnShi : decode 0b0001_0001111_0_1100_1011_11100_10_0_1001 = .ok (.mvnShi .ne false 12 11 0x1c .asr 9) := by decide
theorem test_decode_mvnShr : decode 0b1110_0001111_0_1101_0110_0100_0_11_1_1001 = .ok (.mvnShr .al false 13 6 4 .ror 9) := by decide
theorem test_decode_mul : decode 0b1110_0000000_1_1011_0100_1010_1001_1101 = .ok (.mul .al true 11 4 10 13) := by decide
theorem test_decode_mla : decode 0b0100_0000001_0_1101_0100_1110_1001_0111 = .ok (.mla .mi false 13 4 14 7) := by decide
theorem test_decode_umull : decode 0b1110_0000100_0_0100_1001_1000_1001_0110 = .ok (.umull .al false 4 9 8 6) := by decide
theorem test_decode_umlal : decode 0b1110_0000101_0_0001_1101_0101_1001_1000 = .ok (.umlal .al false 1 13 5 8) := by decide
theorem test_decode_smull : decode 0b0111_0000110_1_0100_1100_1010_1001_0110 = .ok (.smull .vc true 4 12 10 6) := by decide
theorem test_decode_smlal : decode 0b1110_0000111_1_1101_1111_1100_1001_0110 = .ok (.smlal .al true 13 15 12 6) := by decide
theorem test_decode_swp : decode 0b1110_00010000_0110_0010_00001001_0100 = .ok (.swp .al 6 2 4) := by decide
theorem test_decode_swpb : decode 0b1010_00010100_0010_0100_00001001_1000 = .ok (.swpb .ge 2 4 8) := by decide
theorem test_decode_bx : decode 0b1110_000100101111111111110001_0100 = .ok (.bx .al 4) := by decide
theorem test_decode_mrs : decode 0b1110_00010_1_001111_0100_000000000000 = .ok (.mrs .al true 4) := by decide
theorem test_decode_msrReg : decode 0b1101_00010_1_10_1010_111100000000_1111 = .ok (.msrReg .le true 10 15) := by decide
theorem test_decode_msrImm : decode 0b1110_00110_0_10_1000_1111_1111_10101000 = .ok (.msrImm .al false 8 15 0xa8) := by decide
theorem test_decode_strhReg : decode 0b1110_000_1_0_0_0_0_1111_0111_00001011_1101 = .ok (.strhReg .al true false false 15 7 13) := by decide
theorem test_decode_strhImm : decode 0b0001_000_0_1_1_0_0_0111_1101_1011_1011_0110 = .ok (.strhImm .ne false true false 7 13 0xb6) := by decide
theorem test_decode_ldrhReg : decode 0b1110_000_0_1_0_1_1_0111_1100_00001011_0010 = .ok (.ldrhReg .al false true true 7 12 2) := by decide
theorem test_decode_ldrhImm : decode 0b1110_000_0_0_1_0_1_0001_0011_1010_1011_1111 = .ok (.ldrhImm .al false false false 1 3 0xaf) := by decide
theorem test_decode_ldrsbReg : decode 0b0100_000_1_0_0_1_1_1011_1111_00001101_0110 = .ok (.ldrsbReg .mi true false true 11 15 6) := by decide
theorem test_decode_ldrsbImm : decode 0b1110_000_0_0_1_0_1_0001_1101_1100_1101_1011 = .ok (.ldrsbImm .al false false false 1 13 0xcb) := by decide
theorem test_decode_ldrshReg : decode 0b1110_000_0_0_0_1_1_1110_0100_00001111_0001 = .ok (.ldrshReg .al false false true 14 4 1) := by decide
theorem test_decode_ldrshImm : decode 0b0111_000_1_0_1_1_1_1001_0100_1101_1111_1010 = .ok (.ldrshImm .vc true false true 9 4 0xda) := by decide
theorem test_decode_strPreImm : decode 0b1110_0101_1_0_0_0_0101_1001_011010110101 = .ok (.strPreImm .al true false 5 9 0x6b5) := by decide
theorem test_decode_strPostImm : decode 0b1110_0100_0_000_1111_1100_010110101010 = .ok (.strPostImm .al false 15 12 0x5aa) := by decide
theorem test_decode_strtImm : decode 0b1010_0100_1_010_1011_1010_110100001011 = .ok (.strtImm .ge true 11 10 0xd0b) := by decide
theorem test_decode_strPreReg : decode 0b1110_0111_1_0_0_0_1110_1111_11101_11_0_1001 = .ok (.strPreReg .al true false 14 15 0x1d .ror 9) := by decide
theorem test_decode_strPostReg : decode 0b1110_0110_0_000_1110_1000_11001_01_0_1010 = .ok (.strPostReg .al false 14 8 0x19 .lsr 10) := by decide
theorem test_decode_strtReg : decode 0b1101_0110_0_010_1101_0011_00110_01_0_1000 = .ok (.strtReg .le false 13 3 6 .lsr 8) := by decide
theorem test_decode_ldrPreImm : decode 0b1110_0101_0_0_1_1_1001_0001_010100111000 = .ok (.ldrPreImm .al false true 9 1 0x538) := by decide
theorem test_decode_ldrPostImm : decode 0b1110_0100_0_001_1111_1001_000011101001 = .ok (.ldrPostImm .al false 15 9 0xe9) := by decide
theorem test_decode_ldrtImm : decode 0b0001_0100_0_011_0100_0101_000010101101 = .ok (.ldrtImm .ne false 4 5 0xad) := by decide
theorem test_decode_ldrPreReg : decode 0b1110_0111_0_0_0_1_1001_1000_10010_01_0_1101 = .ok (.ldrPreReg .al false false 9 8 0x12 .lsr 13) := by decide
theorem test_decode_ldrPostReg : decode 0b1110_0110_1_001_0110_1010_10001_11_0_1001 = .ok (.ldrPostReg .al true 6 10 0x11 .ror 9) := by decide
theorem test_decode_ldrtReg : decode 0b0100_0110_0_011_1100_0101_01111_11_0_1001 = .ok (.ldrtReg .mi false 12 5 15 .ror 9) := by decide
theorem test_decode_strbPreImm : decode 0b1110_0101_1_1_1_0_1001_0100_101100110000 = .ok (.strbPreImm .al true true 9 4 0xb30) := by decide
theorem test_decode_strbPostImm : decode 0b1110_0100_0_100_1110_1000_001000110010 = .ok (.strbPostImm .al false 14 8 0x232) := by decide
theorem test_decode_strbtImm : decode 0b0111_0100_1_110_0010_0111_011100010011 = .ok (.strbtImm .vc true 2 7 0x713) := by decide
theorem test_decode_strbPreReg : decode 0b1110_0111_1_1_1_0_0010_1011_01000_10_0_0100 = .ok (.strbPreReg .al true true 2 11 8 .asr 4) := by decide
theorem test_decode_strbPostReg : decode 0b1110_0110_0_100_1111_1101_00101_11_0_1011 = .ok (.strbPostReg .al false 15 13 5 .ror 11) := by decide
theorem test_decode_strbtReg : decode 0b1010_0110_1_110_0011_0101_11101_01_0_1000 = .ok (.strbtReg .ge true 3 5 0x1d .lsr 8) := by decide
theorem test_decode_ldrbPreImm : decode 0b1110_0101_0_1_1_1_1100_0010_011001100000 = .ok (.ldrbPreImm .al false true 12 2 0x660) := by decide
theorem test_decode_ldrbPostImm : decode 0b1110_0100_0_101_1011_1110_001110010101 = .ok (.ldrbPostImm .al false 11 14 0x395) := by decide
theorem test_decode_ldrbtImm : decode 0b1101_0100_0_111_1100_0111_111111101000 = .ok (.ldrbtImm .le false 12 7 0xfe8) := by decide
theorem test_decode_ldrbPreReg : decode 0b1110_0111_1_1_1_1_0110_0111_01100_10_0_0001 = .ok (.ldrbPreReg .al true true 6 7 12 .asr 1) := by decide
theorem test_decode_ldrbPostReg : decode 0b1110_0110_1_101_1000_1100_00001_10_0_0110 = .ok (.ldrbPostReg .al true 8 12 1 .asr 6) := by decide
theorem test_decode_ldrbtReg : decode 0b0001_0110_1_111_1001_0010_00100_01_0_1111 = .ok (.ldrbtReg .ne true 9 2 4 .lsr 15) := by decide
theorem test_decode_undefined : decode 0b1110_011_00011010110100101110_1_0010 = .ok (.undefined .al 0x1ad2e 2) := by decide
theorem test_decode_ldmia : decode 0b1110_10001_1_1_1_0001_1110011111101001 = .ok (.ldmia .al true true 1 0xe7e9) := by decide
theorem test_decode_ldmib : decode 0b0100_10011_0_1_1_1101_0010000100101011 = .ok (.ldmib .mi false true 13 0x212b) := by decide
theorem test_decode_ldmda : decode 0b1110_10000_1_1_1_0111_0010011000111101 = .ok (.ldmda .al true true 7 0x263d) := by decide
theorem test_decode_ldmdb : decode 0b1110_10010_1_1_1_0010_0100011101110001 = .ok (.ldmdb .al true true 2 0x4771) := by decide
theorem test_decode_stmia : decode 0b0111_10001_0_0_0_0111_1110010100110010 = .ok (.stmia .vc false false 7 0xe532) := by decide
theorem test_decode_stmib : decode 0b1110_10011_0_1_0_0001_1010001001101011 = .ok (.stmib .al false true 1 0xa26b) := by decide
theorem test_decode_stmda : decode 0b1110_10000_0_1_0_0010_1001101110110010 = .ok (.stmda .al false true 2 0x9bb2) := by decide
theorem test_decode_stmdb : decode 0b1010_10010_0_0_0_0101_1101110011011111 = .ok (.stmdb .ge false false 5 0xdcdf) := by decide
theorem test_decode_b : decode 0b1110_1010_000111110010011001000011 = .ok (.b .al 0x1f2643) := by decide
theorem test_decode_bl : decode 0b1110_1011_011101000010101010000001 = .ok (.bl .al 0x742a81) := by decide
theorem test_decode_ldc : decode 0b1101_110_0_1_1_1_1_1010_0011_0001_10000111 = .ok (.ldc .le false true true true 10 3 1 0x87) := by decide
theorem test_decode_stc : decode 0b1110_110_0_0_0_1_0_0001_0011_0100_11101111 = .ok (.stc .al false false false true 1 3 4 0xef) := by decide
theorem test_decode_cdp : decode 0b1110_1110_0101_1011_1001_1101_010_0_1000 = .ok (.cdp .al 5 11 9 13 2 8) := by decide
theorem test_decode_mcr : decode 0b0001_1110_101_0_1011_0011_0110_111_1_0001 = .ok (.mcr .ne 5 11 3 6 7 1) := by decide
theorem test_decode_mrc : decode 0b1110_1110_011_1_0001_1100_1001_101_1_0100 = .ok (.mrc .al 3 1 12 9 5 4) := by decide
theorem test_decode_swi : decode 0b1110_1111_100000111010010011100111 = .ok (.swi .al 0x83a4e7) := by decide

/-- The host's reading of a table word: the bits above `nbits` are 0, so an instruction of 28 given bits has the condition EQ. -/
theorem test_decodeTableWord : decodeTableWord 28 0x0810002 = some (.addShi .eq false 1 0 0 .lsl 2) := by decide
theorem test_decode_condition15 : decode 0xF0810002 = .error (.condition15 0xF0810002) := by decide
theorem test_decode_unallocated : decode 0xE3000000 = .error (.unallocated 0xE3000000) := by decide
theorem test_decodeBytes_truncated : decodeBytes false [0x02, 0x00, 0x81] = .error .truncated := by decide
theorem test_decodeBytes_bigEnd : decodeBytes true [0xE0, 0x81, 0x00, 0x02, 0x55] = .ok (.addShi .al false 1 0 0 .lsl 2, [0x55]) := by
  decide

/-! ## Well-formedness: every check refuses an ill-formed term, and admits a neighbour -/

theorem test_wf_registerShift_r15 : Instr.wf (.addShr .al false 15 1 2 .lsl 3) = false ∧ Instr.wf (.addShr .al false 14 1 2 .lsl 3) = true := by decide
theorem test_wf_mul_rd_is_rm : Instr.wf (.mul .al false 1 0 2 1) = false ∧ Instr.wf (.mul .al false 1 0 2 3) = true := by decide
theorem test_wf_mul_r15 : Instr.wf (.mul .al false 15 0 2 1) = false ∧ Instr.wf (.mul .al false 14 0 2 1) = true := by decide
theorem test_wf_mla_rn_r15 : Instr.wf (.mla .al false 1 15 2 3) = false ∧ Instr.wf (.mla .al false 1 14 2 3) = true := by decide
theorem test_wf_umull_rdHi_is_rdLo : Instr.wf (.umull .al false 1 1 2 3) = false ∧ Instr.wf (.umull .al false 1 4 2 3) = true := by decide
theorem test_wf_umull_rdLo_is_rm : Instr.wf (.smlal .al false 1 4 2 4) = false ∧ Instr.wf (.smlal .al false 1 4 2 3) = true := by decide
theorem test_wf_writeBack_rn_is_rd : Instr.wf (.ldrPreImm .al true true 1 1 4) = false ∧ Instr.wf (.ldrPreImm .al true false 1 1 4) = true := by decide
theorem test_wf_writeBack_rn_r15 : Instr.wf (.ldrPostImm .al true 15 1 4) = false ∧ Instr.wf (.ldrPostImm .al true 14 1 4) = true := by decide
theorem test_wf_offset_r15 : Instr.wf (.ldrPreReg .al true false 1 2 0 .lsl 15) = false ∧ Instr.wf (.ldrPreReg .al true false 1 2 0 .lsl 14) = true := by decide
theorem test_wf_offset_is_base : Instr.wf (.strPostReg .al true 1 2 0 .lsl 1) = false ∧ Instr.wf (.strPostReg .al true 1 2 0 .lsl 3) = true := by decide
theorem test_wf_store_r15 : Instr.wf (.strPreImm .al true false 1 15 4) = false ∧ Instr.wf (.ldrPreImm .al true false 1 15 4) = true := by decide
theorem test_wf_half_post_w : Instr.wf (.ldrhImm .al false true true 1 2 4) = false ∧ Instr.wf (.ldrhImm .al false true false 1 2 4) = true := by decide
theorem test_wf_ldm_base_r15 : Instr.wf (.ldmia .al false false 15 1) = false ∧ Instr.wf (.ldmia .al false false 14 1) = true := by decide
theorem test_wf_ldm_empty : Instr.wf (.ldmia .al false false 1 0) = false ∧ Instr.wf (.ldmia .al false false 1 1) = true := by decide
theorem test_wf_ldm_base_loaded : Instr.wf (.ldmia .al false true 1 2) = false ∧ Instr.wf (.ldmia .al false false 1 2) = true := by decide
theorem test_wf_stm_r15 : Instr.wf (.stmia .al false false 1 0x8001) = false ∧ Instr.wf (.ldmia .al false false 1 0x8001) = true := by decide
theorem test_wf_stm_base_not_lowest : Instr.wf (.stmia .al false true 1 3) = false ∧ Instr.wf (.stmia .al false true 0 3) = true := by decide
theorem test_wf_userBank_w : Instr.wf (.ldmia .al true true 1 4) = false ∧ Instr.wf (.ldmia .al true true 1 0x8004) = true := by decide
theorem test_wf_swp_rn_is_rd : Instr.wf (.swp .al 1 1 2) = false ∧ Instr.wf (.swp .al 1 2 2) = true := by decide
theorem test_wf_swp_r15 : Instr.wf (.swpb .al 1 15 2) = false ∧ Instr.wf (.swpb .al 1 14 2) = true := by decide
theorem test_wf_bx_r15 : Instr.wf (.bx .al 15) = false ∧ Instr.wf (.bx .al 14) = true := by decide
theorem test_wf_mrs_r15 : Instr.wf (.mrs .al false 15) = false ∧ Instr.wf (.mrs .al false 14) = true := by decide
theorem test_wf_msr_r15 : Instr.wf (.msrReg .al false 8 15) = false ∧ Instr.wf (.msrReg .al false 8 14) = true := by decide

/-! ## One step -/

/-- A cell of a small state, or an expectation about one: `r` in the User bank, `cell` any bank. -/
inductive Item where
  | r (n v : Nat)
  | cell (p : PhysReg) (v : Nat)
  | cpsr (v : Nat)
  | spsr (m : Mode) (v : Nat)
  | pc (v : Nat)
  | word (a v : Nat)
  | byte (a v : Nat)

/-- The state with the cell set. -/
def Item.put (s : State) : Item → State
  | .r n v => { s with regs := s.regs.write 0b10000 (BitVec.ofNat 4 n) (BitVec.ofNat 32 v) }
  | .cell p v => { s with regs := s.regs.set p (BitVec.ofNat 32 v) }
  | .cpsr v => { s with cpsr := Psr.ofWord (BitVec.ofNat 32 v) }
  | .spsr m v => s.setSpsr m (Psr.ofWord (BitVec.ofNat 32 v))
  | .pc v => { s with pc := BitVec.ofNat 32 v }
  | .word a v => { s with mem := s.mem.writeAll (BitVec.ofNat 32 a) (bytesOfWord s.platform.bigEnd (BitVec.ofNat 32 v)) }
  | .byte a v => { s with mem := s.mem.write a (BitVec.ofNat 8 v) }

/-- The SPSR of a mode. -/
def spsrOf (s : State) (m : Mode) : Option Psr := ({ s with cpsr := { s.cpsr with m := m.bits } } : State).spsr

/-- Whether the cell holds the value. -/
def Item.holds (s : State) : Item → Bool
  | .r n v => decide (s.readUser (BitVec.ofNat 4 n) = BitVec.ofNat 32 v)
  | .cell p v => decide (s.regs.get p = BitVec.ofNat 32 v)
  | .cpsr v => decide (s.cpsr = Psr.ofWord (BitVec.ofNat 32 v))
  | .spsr m v => decide (spsrOf s m = some (Psr.ofWord (BitVec.ofNat 32 v)))
  | .pc v => decide (s.pc = BitVec.ofNat 32 v)
  | .word a v => decide (s.wordAt (BitVec.ofNat 32 a) = some (BitVec.ofNat 32 v))
  | .byte a v => decide (s.byteAt (BitVec.ofNat 32 a) = some (BitVec.ofNat 8 v))

/-- The state after reset but in usr mode, with a word at `pc` and some cells set. -/
def start (big : Bool) (pc w : Nat) (before : List Item) : State :=
  (before.foldl Item.put
    { State.reset with
      cpsr := Psr.ofWord 0x10
      pc := BitVec.ofNat 32 pc
      platform := { Platform.default with bigEnd := big } }).withFetchWord 32 w

/-- The outcome is a next state in which the cells hold their values. -/
def nextHas (o : Out) (after : List Item) : Bool :=
  match o with
  | .next t => after.all (Item.holds t)
  | _ => false

/-- The outcome is this fault. -/
def faultIs (o : Out) (f : Fault) : Bool :=
  match o with
  | .fault g => decide (g = f)
  | _ => false

/-- The outcome is this refusal. -/
def refusalIs (o : Out) (r : Refusal) : Bool :=
  match o with
  | .refused g => decide (g = r)
  | _ => false

-- 95_test_vectors.md line 317
theorem test_step_andImm :
    nextHas (step (start false 0x8000 0xE2110102 [.cpsr 0x10, .r 1 0xffffffff])) [.cpsr 0xa0000010, .r 0 0x80000000, .pc 0x8004] = true := by decide
-- 95_test_vectors.md line 316
theorem test_step_andShi :
    nextHas (step (start false 0x8000 0xE0110002 [.cpsr 0x30000010, .r 1 0xf0f0f0f0, .r 2 0xf0f0f0f])) [.cpsr 0x70000010, .r 0 0, .pc 0x8004] = true := by decide
-- by hand from the rules
theorem test_step_andShr :
    nextHas (step (start false 0x8000 0xE0010312 [.r 1 0x3c, .r 2 0xf, .r 3 0x4])) [.r 0 0x30, .pc 0x8004] = true := by decide
-- by hand from the rules
theorem test_step_eorImm :
    nextHas (step (start false 0x8000 0xE23100FF [.r 1 0xff])) [.r 0 0x0, .cpsr 0x40000010, .pc 0x8004] = true := by decide
-- 95_test_vectors.md line 320
theorem test_step_eorShi :
    nextHas (step (start false 0x8000 0xE0310001 [.cpsr 0x80000010, .r 1 0x12345678])) [.cpsr 0x40000010, .r 0 0, .pc 0x8004] = true := by decide
-- by hand from the rules
theorem test_step_eorShr :
    nextHas (step (start false 0x8000 0xE0210312 [.r 1 0x3c, .r 2 0xf, .r 3 0x4])) [.r 0 0xcc, .pc 0x8004] = true := by decide
-- 95_test_vectors.md line 292
theorem test_step_subImm :
    nextHas (step (start false 0x8000 0xE2510000 [.cpsr 0x10, .r 1 0])) [.cpsr 0x60000010, .r 0 0, .pc 0x8004] = true := by decide
-- 95_test_vectors.md line 288
theorem test_step_subShi :
    nextHas (step (start false 0x8000 0xE0510002 [.cpsr 0x10, .r 1 5, .r 2 5])) [.cpsr 0x60000010, .r 0 0, .pc 0x8004] = true := by decide
-- by hand from the rules
theorem test_step_subShr :
    nextHas (step (start false 0x8000 0xE0410312 [.r 1 0x100, .r 2 0xf, .r 3 0x4])) [.r 0 0x10, .pc 0x8004] = true := by decide
-- 95_test_vectors.md line 297
theorem test_step_rsbImm :
    nextHas (step (start false 0x8000 0xE2710000 [.cpsr 0x10, .r 1 1])) [.cpsr 0x80000010, .r 0 0xffffffff, .pc 0x8004] = true := by decide
-- by hand from the rules
theorem test_step_rsbShi :
    nextHas (step (start false 0x8000 0xE0610202 [.r 1 0x100, .r 2 0xf])) [.r 0 0xfffffff0, .pc 0x8004] = true := by decide
-- by hand from the rules
theorem test_step_rsbShr :
    nextHas (step (start false 0x8000 0xE0610312 [.r 1 0x10, .r 2 0xf, .r 3 0x4])) [.r 0 0xe0, .pc 0x8004] = true := by decide
-- 95_test_vectors.md line 283
theorem test_step_addImm :
    nextHas (step (start false 0x8000 0xE2910000 [.cpsr 0xf0000010, .r 1 0])) [.cpsr 0x40000010, .r 0 0, .pc 0x8004] = true := by decide
-- 95_test_vectors.md line 64
theorem test_step_addShi :
    nextHas (step (start false 0x8000 0xE0910002 [.cpsr 0x10, .r 1 0xffffffff, .r 2 1])) [.cpsr 0x60000010, .r 0 0, .pc 0x8004] = true := by decide
-- 95_test_vectors.md line 139
theorem test_step_addShr :
    nextHas (step (start false 0x8000 0xE0855213 [.cpsr 0x10, .r 5 1, .r 3 2, .r 2 4])) [.r 5 0x21, .pc 0x8004] = true := by decide
-- by hand from the rules
theorem test_step_adcImm :
    nextHas (step (start false 0x8000 0xE2B10001 [.cpsr 0x20000010, .r 1 0xfffffffe])) [.r 0 0x0, .cpsr 0x60000010, .pc 0x8004] = true := by decide
-- 95_test_vectors.md line 284
theorem test_step_adcShi :
    nextHas (step (start false 0x8000 0xE0B10002 [.cpsr 0x20000010, .r 1 0xffffffff, .r 2 0])) [.cpsr 0x60000010, .r 0 0, .pc 0x8004] = true := by decide
-- by hand from the rules
theorem test_step_adcShr :
    nextHas (step (start false 0x8000 0xE0A10312 [.cpsr 0x20000010, .r 1 0x10, .r 2 0xf, .r 3 0x4])) [.r 0 0x101, .pc 0x8004] = true := by decide
-- by hand from the rules
theorem test_step_sbcImm :
    nextHas (step (start false 0x8000 0xE2D10005 [.r 1 0x5])) [.r 0 0xffffffff, .cpsr 0x80000010, .pc 0x8004] = true := by decide
-- 95_test_vectors.md line 294
theorem test_step_sbcShi :
    nextHas (step (start false 0x8000 0xE0D10002 [.cpsr 0x10, .r 1 5, .r 2 3])) [.cpsr 0x20000010, .r 0 1, .pc 0x8004] = true := by decide
-- by hand from the rules
theorem test_step_sbcShr :
    nextHas (step (start false 0x8000 0xE0C10312 [.r 1 0x100, .r 2 0xf, .r 3 0x4])) [.r 0 0xf, .pc 0x8004] = true := by decide
-- 95_test_vectors.md line 302
theorem test_step_rscImm :
    nextHas (step (start false 0x8000 0xE2E10000 [.cpsr 0x10, .r 1 0])) [.r 0 0xffffffff, .pc 0x8004] = true := by decide
-- 95_test_vectors.md line 301
theorem test_step_rscShi :
    nextHas (step (start false 0x8000 0xE0F10002 [.cpsr 0x10, .r 1 3, .r 2 5])) [.cpsr 0x20000010, .r 0 1, .pc 0x8004] = true := by decide
-- by hand from the rules
theorem test_step_rscShr :
    nextHas (step (start false 0x8000 0xE0E10312 [.r 1 0x10, .r 2 0xf, .r 3 0x4])) [.r 0 0xdf, .pc 0x8004] = true := by decide
-- 95_test_vectors.md line 90
theorem test_step_tstImm :
    nextHas (step (start false 0x8000 0x03120005 [.cpsr 0x40000010, .r 2 4])) [.cpsr 0x10, .pc 0x8004] = true := by decide
-- by hand from the rules
theorem test_step_tstShi :
    nextHas (step (start false 0x8000 0xE1110202 [.r 1 0xf, .r 2 0xf])) [.cpsr 0x40000010, .pc 0x8004] = true := by decide
-- by hand from the rules
theorem test_step_tstShr :
    nextHas (step (start false 0x8000 0xE1110312 [.r 1 0xf, .r 2 0x80000000, .r 3 0x1])) [.cpsr 0x60000010, .pc 0x8004] = true := by decide
-- by hand from the rules
theorem test_step_teqImm :
    nextHas (step (start false 0x8000 0xE3310102 [.r 1 0x0])) [.cpsr 0xa0000010, .pc 0x8004] = true := by decide
-- 95_test_vectors.md line 333
theorem test_step_teqShi :
    nextHas (step (start false 0x8000 0xE1300001 [.cpsr 0x10, .r 0 0x1234, .r 1 0x1234])) [.cpsr 0x40000010, .pc 0x8004] = true := by decide
-- by hand from the rules
theorem test_step_teqShr :
    nextHas (step (start false 0x8000 0xE1310332 [.r 1 0xf, .r 2 0xf0, .r 3 0x4])) [.cpsr 0x40000010, .pc 0x8004] = true := by decide
-- 95_test_vectors.md line 303
theorem test_step_cmpImm :
    nextHas (step (start false 0x8000 0xE3500000 [.cpsr 0x10, .r 0 0])) [.cpsr 0x60000010, .pc 0x8004] = true := by decide
-- 95_test_vectors.md line 86
theorem test_step_cmpShi :
    nextHas (step (start false 0x8000 0xE1500001 [.cpsr 0x10, .r 0 5, .r 1 5])) [.cpsr 0x60000010, .pc 0x8004] = true := by decide
-- by hand from the rules
theorem test_step_cmpShr :
    nextHas (step (start false 0x8000 0xE1510312 [.r 1 0xf0, .r 2 0xf, .r 3 0x4])) [.cpsr 0x60000010, .pc 0x8004] = true := by decide
-- 95_test_vectors.md line 308
theorem test_step_cmnImm :
    nextHas (step (start false 0x8000 0xE3700000 [.cpsr 0xf0000010, .r 0 5])) [.cpsr 0x10, .pc 0x8004] = true := by decide
-- 95_test_vectors.md line 307
theorem test_step_cmnShi :
    nextHas (step (start false 0x8000 0xE1700001 [.cpsr 0x10, .r 0 0x7fffffff, .r 1 1])) [.cpsr 0x90000010, .pc 0x8004] = true := by decide
-- by hand from the rules
theorem test_step_cmnShr :
    nextHas (step (start false 0x8000 0xE1710312 [.r 1 0xffffff10, .r 2 0xf, .r 3 0x4])) [.cpsr 0x60000010, .pc 0x8004] = true := by decide
-- by hand from the rules
theorem test_step_orrImm :
    nextHas (step (start false 0x8000 0xE38100FF [.r 1 0x100])) [.r 0 0x1ff, .pc 0x8004] = true := by decide
-- 95_test_vectors.md line 322
theorem test_step_orrShi :
    nextHas (step (start false 0x8000 0xE1910082 [.cpsr 0x10, .r 1 0, .r 2 0x80000000])) [.cpsr 0x60000010, .r 0 0, .pc 0x8004] = true := by decide
-- by hand from the rules
theorem test_step_orrShr :
    nextHas (step (start false 0x8000 0xE1810312 [.r 1 0x3, .r 2 0xf, .r 3 0x4])) [.r 0 0xf3, .pc 0x8004] = true := by decide
-- 95_test_vectors.md line 326
theorem test_step_movImm :
    nextHas (step (start false 0x8000 0xE3B004FF [.cpsr 0x10])) [.cpsr 0xa0000010, .r 0 0xff000000, .pc 0x8004] = true := by decide
-- 95_test_vectors.md line 345
theorem test_step_movShi :
    nextHas (step (start false 0x8000 0xE1B00F81 [.cpsr 0x10, .r 1 3])) [.cpsr 0xa0000010, .r 0 0x80000000, .pc 0x8004] = true := by decide
-- 95_test_vectors.md line 364
theorem test_step_movShr :
    nextHas (step (start false 0x8000 0xE1B00211 [.cpsr 0x10, .r 1 0x80000001, .r 2 1])) [.cpsr 0x20000010, .r 0 2, .pc 0x8004] = true := by decide
-- 95_test_vectors.md line 323
theorem test_step_bicImm :
    nextHas (step (start false 0x8000 0xE3C100FF [.cpsr 0x10, .r 1 0x12345678])) [.r 0 0x12345600, .pc 0x8004] = true := by decide
-- 95_test_vectors.md line 324
theorem test_step_bicShi :
    nextHas (step (start false 0x8000 0xE1D10002 [.cpsr 0x10, .r 1 0xffffffff, .r 2 0x7fffffff])) [.cpsr 0x80000010, .r 0 0x80000000, .pc 0x8004] = true := by decide
-- by hand from the rules
theorem test_step_bicShr :
    nextHas (step (start false 0x8000 0xE1C10312 [.r 1 0xff, .r 2 0xf, .r 3 0x4])) [.r 0 0xf, .pc 0x8004] = true := by decide
-- 95_test_vectors.md line 329
theorem test_step_mvnImm :
    nextHas (step (start false 0x8000 0xE3F00000 [.cpsr 0x10])) [.cpsr 0x80000010, .r 0 0xffffffff, .pc 0x8004] = true := by decide
-- 95_test_vectors.md line 330
theorem test_step_mvnShi :
    nextHas (step (start false 0x8000 0xE1F00001 [.cpsr 0x10, .r 1 0xffffffff])) [.cpsr 0x40000010, .r 0 0, .pc 0x8004] = true := by decide
-- by hand from the rules
theorem test_step_mvnShr :
    nextHas (step (start false 0x8000 0xE1E00312 [.r 2 0xf, .r 3 0x4])) [.r 0 0xffffff0f, .pc 0x8004] = true := by decide
-- 95_test_vectors.md line 149
theorem test_step_mul :
    nextHas (step (start false 0x8000 0xE0000291 [.cpsr 0x10, .r 1 6, .r 2 7])) [.r 0 0x2a, .pc 0x8004] = true := by decide
-- 95_test_vectors.md line 446
theorem test_step_mla :
    nextHas (step (start false 0x8000 0xE0200291 [.cpsr 0x10, .r 0 0xa, .r 1 3, .r 2 4])) [.r 0 0x16, .pc 0x8004] = true := by decide
-- 95_test_vectors.md line 450
theorem test_step_umull :
    nextHas (step (start false 0x8000 0xE0810392 [.cpsr 0x10, .r 2 0x80000000, .r 3 2])) [.r 0 0, .r 1 1, .pc 0x8004] = true := by decide
-- 95_test_vectors.md line 456
theorem test_step_umlal :
    nextHas (step (start false 0x8000 0xE0A10392 [.cpsr 0x10, .r 0 0xffffffff, .r 1 0xffffffff, .r 2 1, .r 3 1])) [.r 0 0, .r 1 0, .pc 0x8004] = true := by decide
-- 95_test_vectors.md line 452
theorem test_step_smull :
    nextHas (step (start false 0x8000 0xE0C10392 [.cpsr 0x10, .r 2 0xffffffff, .r 3 2])) [.r 0 0xfffffffe, .r 1 0xffffffff, .pc 0x8004] = true := by decide
-- 95_test_vectors.md line 457
theorem test_step_smlal :
    nextHas (step (start false 0x8000 0xE0E10392 [.cpsr 0x10, .r 0 1, .r 1 0, .r 2 0xffffffff, .r 3 2])) [.r 0 0xffffffff, .r 1 0xffffffff, .pc 0x8004] = true := by decide
-- 95_test_vectors.md line 593
theorem test_step_swp :
    nextHas (step (start false 0x8000 0xE1020091 [.r 1 1, .r 2 0x3000, .word 0x3000 0])) [.r 0 0, .word 0x3000 1, .pc 0x8004] = true := by decide
-- 95_test_vectors.md line 594
theorem test_step_swpb :
    nextHas (step (start false 0x8000 0xE1420091 [.r 1 0x1ff, .r 2 0x3001, .word 0x3000 0x11223344])) [.r 0 0x33, .byte 0x3001 0xff, .pc 0x8004] = true := by decide
-- 95_test_vectors.md line 628
theorem test_step_bx :
    nextHas (step (start false 0x8000 0xE12FFF1E [.r 14 0x9000])) [.pc 0x9000] = true := by decide
-- 95_test_vectors.md line 637
theorem test_step_mrs :
    nextHas (step (start false 0x8000 0xE10F0000 [.cpsr 0x60000093])) [.r 0 0x60000093, .pc 0x8004] = true := by decide
-- 95_test_vectors.md line 647
theorem test_step_msrReg :
    nextHas (step (start false 0x8000 0xE121F000 [.cpsr 0xd3, .r 0 0x10])) [.cpsr 0x10, .pc 0x8004] = true := by decide
-- 95_test_vectors.md line 642
theorem test_step_msrImm :
    nextHas (step (start false 0x8000 0xE328F20F [.cpsr 0x10])) [.cpsr 0xf0000010, .pc 0x8004] = true := by decide
-- by hand from the rules
theorem test_step_strhReg :
    nextHas (step (start false 0x8000 0xE18100B2 [.r 0 0x12345678, .r 1 0x1000, .r 2 0x6])) [.byte 0x1006 0x78, .byte 0x1007 0x56, .r 1 0x1000, .pc 0x8004] = true := by decide
-- 95_test_vectors.md line 510
theorem test_step_strhImm :
    nextHas (step (start false 0x8000 0xE16100B2 [.r 0 0xbeef, .r 1 0x2002, .word 0x2000 0])) [.r 1 0x2000, .word 0x2000 0xbeef, .pc 0x8004] = true := by decide
-- 95_test_vectors.md line 488
theorem test_step_ldrhReg :
    nextHas (step (start false 0x8000 0xE19100B2 [.r 1 0x1000, .r 2 6, .word 0x1000 0x11223344, .word 0x1004 0x8899aabb, .word 0x1008 0xffff8001])) [.r 0 0x8899, .pc 0x8004] = true := by decide
-- 95_test_vectors.md line 489
theorem test_step_ldrhImm :
    nextHas (step (start false 0x8000 0xE0D100B2 [.r 1 0x1008, .word 0x1000 0x11223344, .word 0x1004 0x8899aabb, .word 0x1008 0xffff8001])) [.r 0 0x8001, .r 1 0x100a, .pc 0x8004] = true := by decide
-- by hand from the rules
theorem test_step_ldrsbReg :
    nextHas (step (start false 0x8000 0xE11100D2 [.r 1 0x1004, .r 2 0x4, .byte 0x1000 0x80])) [.r 0 0xffffff80, .r 1 0x1004, .pc 0x8004] = true := by decide
-- 95_test_vectors.md line 493
theorem test_step_ldrsbImm :
    nextHas (step (start false 0x8000 0xE1D100D0 [.r 1 0x1004, .word 0x1000 0x11223344, .word 0x1004 0x8899aabb, .word 0x1008 0xffff8001])) [.r 0 0xffffffbb, .pc 0x8004] = true := by decide
-- by hand from the rules
theorem test_step_ldrshReg :
    nextHas (step (start false 0x8000 0xE09100F2 [.r 1 0x1000, .r 2 0x8, .byte 0x1000 0x1, .byte 0x1001 0x80])) [.r 0 0xffff8001, .r 1 0x1008, .pc 0x8004] = true := by decide
-- 95_test_vectors.md line 491
theorem test_step_ldrshImm :
    nextHas (step (start false 0x8000 0xE1D100F0 [.r 1 0x1008, .word 0x1000 0x11223344, .word 0x1004 0x8899aabb, .word 0x1008 0xffff8001])) [.r 0 0xffff8001, .pc 0x8004] = true := by decide
-- 95_test_vectors.md line 505
theorem test_step_strPreImm :
    nextHas (step (start false 0x8000 0xE5210004 [.r 0 0xdeadbeef, .r 1 0x2004])) [.r 1 0x2000, .word 0x2000 0xdeadbeef, .pc 0x8004] = true := by decide
-- 95_test_vectors.md line 504
theorem test_step_strPostImm :
    nextHas (step (start false 0x8000 0xE4810004 [.r 0 0xdeadbeef, .r 1 0x2000])) [.r 1 0x2004, .word 0x2000 0xdeadbeef, .pc 0x8004] = true := by decide
-- 95_test_vectors.md line 511
theorem test_step_strtImm :
    nextHas (step (start false 0x8000 0xE4A10004 [.r 0 7, .r 1 0x2000])) [.r 1 0x2004, .word 0x2000 7, .pc 0x8004] = true := by decide
-- 95_test_vectors.md line 506
theorem test_step_strPreReg :
    nextHas (step (start false 0x8000 0xE7810102 [.r 0 0xdeadbeef, .r 1 0x2000, .r 2 3])) [.word 0x200c 0xdeadbeef, .pc 0x8004] = true := by decide
-- by hand from the rules
theorem test_step_strPostReg :
    nextHas (step (start false 0x8000 0xE6010102 [.r 0 0x12345678, .r 1 0x1000, .r 2 0x2])) [.word 0x1000 0x12345678, .r 1 0xff8, .pc 0x8004] = true := by decide
-- by hand from the rules
theorem test_step_strtReg :
    nextHas (step (start false 0x8000 0xE6A100A2 [.r 0 0x12345678, .r 1 0x1000, .r 2 0x8])) [.word 0x1000 0x12345678, .r 1 0x1004, .pc 0x8004] = true := by decide
-- 95_test_vectors.md line 170
theorem test_step_ldrPreImm :
    nextHas (step (start false 0x8000 0xE5B10004 [.cpsr 0x10, .r 1 0x1000, .word 0x1000 0xaaaa0000, .word 0x1004 0xcafef00d])) [.r 0 0xcafef00d, .r 1 0x1004, .pc 0x8004] = true := by decide
-- 95_test_vectors.md line 169
theorem test_step_ldrPostImm :
    nextHas (step (start false 0x8000 0xE4910004 [.cpsr 0x10, .r 1 0x1000, .word 0x1000 0xaaaa0000, .word 0x1004 0xcafef00d])) [.r 0 0xaaaa0000, .r 1 0x1004, .pc 0x8004] = true := by decide
-- 95_test_vectors.md line 496
theorem test_step_ldrtImm :
    nextHas (step (start false 0x8000 0xE4B10004 [.r 1 0x1000, .word 0x1000 0x11223344, .word 0x1004 0x8899aabb, .word 0x1008 0xffff8001])) [.r 0 0x11223344, .r 1 0x1004, .pc 0x8004] = true := by decide
-- 95_test_vectors.md line 473
theorem test_step_ldrPreReg :
    nextHas (step (start false 0x8000 0xE7910002 [.r 1 0x1000, .r 2 8, .word 0x1000 0x11223344, .word 0x1004 0x8899aabb, .word 0x1008 0xffff8001])) [.r 0 0xffff8001, .pc 0x8004] = true := by decide
-- 95_test_vectors.md line 476
theorem test_step_ldrPostReg :
    nextHas (step (start false 0x8000 0xE6910002 [.r 1 0x1000, .r 2 0x10, .word 0x1000 0x11223344, .word 0x1004 0x8899aabb, .word 0x1008 0xffff8001])) [.r 0 0x11223344, .r 1 0x1010, .pc 0x8004] = true := by decide
-- by hand from the rules
theorem test_step_ldrtReg :
    nextHas (step (start false 0x8000 0xE6B10002 [.r 1 0x1000, .r 2 0x8, .word 0x1000 0x11223344])) [.r 0 0x11223344, .r 1 0x1008, .pc 0x8004] = true := by decide
-- 95_test_vectors.md line 507
theorem test_step_strbPreImm :
    nextHas (step (start false 0x8000 0xE5C10000 [.r 0 0x12345678, .r 1 0x2001, .word 0x2000 0xaaaaaaaa])) [.byte 0x2001 0x78, .pc 0x8004] = true := by decide
-- 95_test_vectors.md line 508
theorem test_step_strbPostImm :
    nextHas (step (start false 0x8000 0xE4C10001 [.r 0 0x1ff, .r 1 0x2003, .word 0x2000 0])) [.r 1 0x2004, .byte 0x2003 0xff, .pc 0x8004] = true := by decide
-- 95_test_vectors.md line 512
theorem test_step_strbtImm :
    nextHas (step (start false 0x8000 0xE4E10001 [.r 0 0x41, .r 1 0x2000])) [.r 1 0x2001, .byte 0x2000 0x41, .pc 0x8004] = true := by decide
-- by hand from the rules
theorem test_step_strbPreReg :
    nextHas (step (start false 0x8000 0xE7E10002 [.r 0 0x12345678, .r 1 0x1000, .r 2 0x3])) [.byte 0x1003 0x78, .r 1 0x1003, .pc 0x8004] = true := by decide
-- by hand from the rules
theorem test_step_strbPostReg :
    nextHas (step (start false 0x8000 0xE6C10002 [.r 0 0x12345678, .r 1 0x1000, .r 2 0x3])) [.byte 0x1000 0x78, .r 1 0x1003, .pc 0x8004] = true := by decide
-- by hand from the rules
theorem test_step_strbtReg :
    nextHas (step (start false 0x8000 0xE6610002 [.r 0 0x12345678, .r 1 0x1000, .r 2 0x3])) [.byte 0x1000 0x78, .r 1 0xffd, .pc 0x8004] = true := by decide
-- 95_test_vectors.md line 484
theorem test_step_ldrbPreImm :
    nextHas (step (start false 0x8000 0xE5F10001 [.r 1 0x1004, .word 0x1000 0x11223344, .word 0x1004 0x8899aabb, .word 0x1008 0xffff8001])) [.r 0 0xaa, .r 1 0x1005, .pc 0x8004] = true := by decide
-- by hand from the rules
theorem test_step_ldrbPostImm :
    nextHas (step (start false 0x8000 0xE4510001 [.r 1 0x1000, .byte 0x1000 0xfe])) [.r 0 0xfe, .r 1 0xfff, .pc 0x8004] = true := by decide
-- 95_test_vectors.md line 497
theorem test_step_ldrbtImm :
    nextHas (step (start false 0x8000 0xE4F10001 [.r 1 0x1001, .word 0x1000 0x11223344, .word 0x1004 0x8899aabb, .word 0x1008 0xffff8001])) [.r 0 0x33, .r 1 0x1002, .pc 0x8004] = true := by decide
-- by hand from the rules
theorem test_step_ldrbPreReg :
    nextHas (step (start false 0x8000 0xE7D100A2 [.r 1 0x1000, .r 2 0x6, .byte 0x1003 0xfe])) [.r 0 0xfe, .r 1 0x1000, .pc 0x8004] = true := by decide
-- by hand from the rules
theorem test_step_ldrbPostReg :
    nextHas (step (start false 0x8000 0xE6D10002 [.r 1 0x1000, .r 2 0x6, .byte 0x1000 0x7f])) [.r 0 0x7f, .r 1 0x1006, .pc 0x8004] = true := by decide
-- by hand from the rules
theorem test_step_ldrbtReg :
    nextHas (step (start false 0x8000 0xE6710002 [.r 1 0x1000, .r 2 0x6, .byte 0x1000 0x80])) [.r 0 0x80, .r 1 0xffa, .pc 0x8004] = true := by decide
-- 95_test_vectors.md line 674
theorem test_step_undefined :
    nextHas (step (start false 0x8000 0xE7F000F0 [.cpsr 0x10])) [.cpsr 0x9b, .cell .r14Und 0x8004, .spsr .und 0x10, .pc 4] = true := by decide
-- 95_test_vectors.md line 205
theorem test_step_ldmia :
    nextHas (step (start false 0x8000 0xE8BD8003 [.cpsr 0x10, .r 13 0x1000, .word 0x1000 1, .word 0x1004 2, .word 0x1008 0x1234])) [.r 0 1, .r 1 2, .r 13 0x100c, .pc 0x1234] = true := by decide
-- 95_test_vectors.md line 553
theorem test_step_ldmib :
    nextHas (step (start false 0x8000 0xE9B90007 [.r 9 0x100c, .word 0x1000 0xb0, .word 0x1004 0xb1, .word 0x1008 0xb2, .word 0x100c 0xb3, .word 0x1010 0xb4, .word 0x1014 0xb5, .word 0x1018 0xb6, .word 0x101c 0xb7])) [.r 0 0xb4, .r 1 0xb5, .r 2 0xb6, .r 9 0x1018, .pc 0x8004] = true := by decide
-- 95_test_vectors.md line 554
theorem test_step_ldmda :
    nextHas (step (start false 0x8000 0xE8390007 [.r 9 0x100c, .word 0x1000 0xb0, .word 0x1004 0xb1, .word 0x1008 0xb2, .word 0x100c 0xb3, .word 0x1010 0xb4, .word 0x1014 0xb5, .word 0x1018 0xb6, .word 0x101c 0xb7])) [.r 0 0xb1, .r 1 0xb2, .r 2 0xb3, .r 9 0x1000, .pc 0x8004] = true := by decide
-- 95_test_vectors.md line 555
theorem test_step_ldmdb :
    nextHas (step (start false 0x8000 0xE9390007 [.r 9 0x100c, .word 0x1000 0xb0, .word 0x1004 0xb1, .word 0x1008 0xb2, .word 0x100c 0xb3, .word 0x1010 0xb4, .word 0x1014 0xb5, .word 0x1018 0xb6, .word 0x101c 0xb7])) [.r 0 0xb0, .r 1 0xb1, .r 2 0xb2, .r 9 0x1000, .pc 0x8004] = true := by decide
-- 95_test_vectors.md line 569
theorem test_step_stmia :
    nextHas (step (start false 0x8000 0xE8A00003 [.r 0 0x2000, .r 1 5])) [.r 0 0x2008, .word 0x2000 0x2000, .word 0x2004 5, .pc 0x8004] = true := by decide
-- 95_test_vectors.md line 193
theorem test_step_stmib :
    nextHas (step (start false 0x8000 0xE9A90007 [.cpsr 0x10, .r 0 0xa0, .r 1 0xa1, .r 2 0xa2, .r 9 0x100c])) [.r 9 0x1018, .word 0x1010 0xa0, .word 0x1014 0xa1, .word 0x1018 0xa2, .pc 0x8004] = true := by decide
-- 95_test_vectors.md line 196
theorem test_step_stmda :
    nextHas (step (start false 0x8000 0xE8290007 [.cpsr 0x10, .r 0 0xa0, .r 1 0xa1, .r 2 0xa2, .r 9 0x100c])) [.r 9 0x1000, .word 0x1004 0xa0, .word 0x1008 0xa1, .word 0x100c 0xa2, .pc 0x8004] = true := by decide
-- 95_test_vectors.md line 571
theorem test_step_stmdb :
    nextHas (step (start false 0x8000 0xE92D4010 [.r 4 0x44, .r 13 0x4000, .r 14 0x8123])) [.r 13 0x3ff8, .word 0x3ff8 0x44, .word 0x3ffc 0x8123, .pc 0x8004] = true := by decide
-- 95_test_vectors.md line 608
theorem test_step_b :
    nextHas (step (start false 0x8000 0xEA000002 [.cpsr 0x10])) [.pc 0x8010] = true := by decide
-- 95_test_vectors.md line 235
theorem test_step_bl :
    nextHas (step (start false 0x8000 0xEB00003E [.cpsr 0x10])) [.r 14 0x8004, .pc 0x8100] = true := by decide
-- 95_test_vectors.md line 678
theorem test_step_ldc :
    nextHas (step (start false 0x8000 0xED932101 [.cpsr 0x10, .r 3 0x1000])) [.cpsr 0x9b, .cell .r14Und 0x8004, .spsr .und 0x10, .pc 4] = true := by decide
-- 95_test_vectors.md line 679
theorem test_step_stc :
    nextHas (step (start false 0x8000 0xED832101 [.cpsr 0x10, .r 3 0x1000])) [.cpsr 0x9b, .cell .r14Und 0x8004, .spsr .und 0x10, .pc 4] = true := by decide
-- 95_test_vectors.md line 677
theorem test_step_cdp :
    nextHas (step (start false 0x8000 0xEE2431C5 [.cpsr 0x10])) [.cpsr 0x9b, .cell .r14Und 0x8004, .spsr .und 0x10, .pc 4] = true := by decide
-- 95_test_vectors.md line 680
theorem test_step_mcr :
    nextHas (step (start false 0x8000 0xEE010F10 [.cpsr 0xd3, .r 0 0])) [.cpsr 0xdb, .cell .r14Und 0x8004, .spsr .und 0xd3, .pc 4] = true := by decide
-- 95_test_vectors.md line 681
theorem test_step_mrc :
    nextHas (step (start false 0x8000 0xEE110F10 [.cpsr 0xd3])) [.cpsr 0xdb, .cell .r14Und 0x8004, .spsr .und 0xd3, .pc 4] = true := by decide
-- 95_test_vectors.md line 672
theorem test_step_swi :
    nextHas (step (start false 0x8000 0xEF000001 [.cpsr 0x200000d3])) [.cell .r14Svc 0x8004, .spsr .svc 0x200000d3, .pc 8] = true := by decide

/-- MULS: N and Z from the result and V kept; C is free, so it is not looked at (R194). -/
theorem test_muls_flags :
    (match step (start false 0x8000 0xE0110392 [.cpsr 0x90000010, .r 2 0x10000, .r 3 0x10000]) with
      | .next t => t.cpsr.z && !t.cpsr.n && t.cpsr.v
      | _ => false) = true := by decide
/-- SMULLS: N is bit 63, Z is of all 64 bits (R194). -/
theorem test_smulls_flags :
    (match step (start false 0x8000 0xE0D10392 [.r 2 0xFFFFFFFF, .r 3 1]) with
      | .next t => t.cpsr.n && !t.cpsr.z && decide (t.readReg 1 = 0xFFFFFFFF)
      | _ => false) = true := by decide

/-! ## Every fault and refusal is reached -/

theorem test_fault_condition15 : faultIs (step (start false 0x8000 0xF0000000 [])) (.condition15 0xF0000000) = true := by decide
theorem test_fault_unallocated : faultIs (step (start false 0x8000 0xE3000000 [])) (.unallocated 0xE3000000) = true := by decide
/-- The same word, and a halfword store with S = 1, with a condition that fails (`93_implementation_defined.md` section 2). -/
theorem test_skip_unallocated :
    nextHas (step (start false 0x8000 0x03000000 [.cpsr 0x10])) [.cpsr 0x10, .pc 0x8004] = true := by decide
theorem test_skip_unallocated_half :
    nextHas (step (start false 0x8000 0x11C100D0 [.cpsr 0x40000010, .r 0 5])) [.cpsr 0x40000010, .r 0 5, .pc 0x8004] = true := by decide
theorem test_fault_pcWrap : faultIs (step (start false 0xFFFFFFFC 0xE1A00000 [])) (.pcWrap) = true := by decide
theorem test_fault_misaligned : faultIs (step (start false 0x8000 0xE5910000 [.r 1 0x1002])) (.misaligned 0x1002) = true := by decide
theorem test_fault_misaligned_half : faultIs (step (start false 0x8000 0xE1D100B0 [.r 1 0x1001])) (.misaligned 0x1001) = true := by decide
theorem test_fault_unwritten : faultIs (step (start false 0x8000 0xE5910000 [.r 1 0x2000, .byte 0x2000 0, .byte 0x2001 0, .byte 0x2002 0])) (.unwritten 0x2000) = true := by decide
theorem test_fault_registerShiftR15 : faultIs (step (start false 0x8000 0xE08F0211 [])) (.registerShiftR15) = true := by decide
theorem test_fault_noSpsr : faultIs (step (start false 0x8000 0xE14F0000 [])) (.noSpsr) = true := by decide
theorem test_fault_noSpsr_return : faultIs (step (start false 0x8000 0xE1B0F00E [])) (.noSpsr) = true := by decide
theorem test_fault_mulOperands : faultIs (step (start false 0x8000 0xE0010291 [])) (.mulOperands) = true := by decide
theorem test_fault_mulLongOperands : faultIs (step (start false 0x8000 0xE0811293 [])) (.mulLongOperands) = true := by decide
theorem test_fault_transferOperands : faultIs (step (start false 0x8000 0xE5B11004 [])) (.transferOperands) = true := by decide
theorem test_fault_transferR15 : faultIs (step (start false 0x8000 0xE581F000 [])) (.transferR15) = true := by decide
theorem test_fault_halfPostWriteBack : faultIs (step (start false 0x8000 0xE0E100B0 [])) (.halfPostWriteBack) = true := by decide
theorem test_fault_blockOperands : faultIs (step (start false 0x8000 0xE8B10002 [])) (.blockOperands) = true := by decide
theorem test_fault_userBankForm : faultIs (step (start false 0x8000 0xE8D10001 [])) (.userBankForm) = true := by decide
theorem test_fault_swapOperands : faultIs (step (start false 0x8000 0xE1011092 [])) (.swapOperands) = true := by decide
theorem test_fault_branchExchange : faultIs (step (start false 0x8000 0xE12FFF11 [.r 1 2])) (.branchExchange) = true := by decide
theorem test_fault_statusR15 : faultIs (step (start false 0x8000 0xE10FF000 [])) (.statusR15) = true := by decide
theorem test_fault_msrThumb : faultIs (step (start false 0x8000 0xE121F000 [.cpsr 0x13, .r 0 0x33])) (.msrThumb) = true := by decide
theorem test_fault_invalidMode : faultIs (step (start false 0x8000 0xE121F000 [.cpsr 0x13, .r 0 0x14])) (.invalidMode) = true := by decide
theorem test_fault_bankedAfterUserBank :
    faultIs (step { start false 0x8000 0xE1A0000D [.cpsr 0x13] with afterUserBank := true }) .bankedAfterUserBank = true := by
  decide
theorem test_refuse_thumb : refusalIs (step (start false 0x8000 0xE12FFF11 [.r 1 1])) .thumbState = true := by decide
theorem test_refuse_thumb_return :
    refusalIs (step (start false 0x8000 0xE1B0F00E [.cpsr 0x13, .spsr .svc 0x30])) .thumbState = true := by decide
theorem test_refuse_coprocessor :
    refusalIs (exec (.cdp .al 0 0 0 2 0 0) { State.reset with platform := { Platform.default with coprocessors := [2] } })
      (.coprocessorUnspecified 2) = true := by decide
theorem test_refuse_step_thumb : refusalIs (step (start false 0x8000 0xE1A00000 [.cpsr 0x30])) .thumbState = true := by decide

/-! ## Exceptions (R300 to R311) -/

/-- A state at 0x8010 with one sample of the lines. -/
def atBoundary (cpsr : Nat) (l : Lines) (aborts : List AbortEntry) : State :=
  { start false 0x8010 0xE1A00000 [.cpsr cpsr] with lines := [l], platform := { Platform.default with aborts := aborts } }

/-- An abort of a fetch, a read or a write of a word at 0x8010. -/
def abortAt (k : AccessKind) (privileged : Bool) (a : Nat) : AbortEntry :=
  { kind := k, size := 4, privileged := privileged, first := a, last := a }

theorem test_irq :
    nextHas (step (atBoundary 0x60000010 { reset := false, fiq := false, irq := true } []))
      [.cpsr 0x60000092, .spsr .irq 0x60000010, .cell .r14Irq 0x8014, .pc 0x18] = true := by decide
theorem test_fiq_before_irq :
    nextHas (step (atBoundary 0x10 { reset := false, fiq := true, irq := true } []))
      [.cpsr 0xD1, .spsr .fiq 0x10, .cell .r14Fiq 0x8014, .pc 0x1C] = true := by decide
theorem test_masked_lines :
    nextHas (step (atBoundary 0xD3 { reset := false, fiq := true, irq := true } [])) [.cpsr 0xD3, .pc 0x8014] = true := by decide
theorem test_prefetchAbort :
    nextHas (step (atBoundary 0x10 Lines.idle [abortAt .fetch false 0x8010]))
      [.cpsr 0x97, .spsr .abt 0x10, .cell .r14Abt 0x8014, .pc 0xC] = true := by decide
theorem test_reset_line :
    (match step (atBoundary 0x10 { reset := true, fiq := true, irq := true } []) with
      | .next t => decide (t.pc = 0) && decide (t.cpsr.m = 0b10011) && t.cpsr.i && t.cpsr.f && !t.cpsr.t
      | _ => false) = true := by decide
theorem test_dataAbort_restored :
    nextHas (step { start false 0x8000 0xE5B10004 [.r 1 0x1000, .word 0x1004 7] with
        platform := { Platform.default with aborts := [abortAt .read false 0x1004] } })
      [.cpsr 0x97, .spsr .abt 0x10, .cell .r14Abt 0x8008, .pc 0x10, .r 1 0x1000, .r 0 0] = true := by decide
theorem test_dataAbort_updated :
    nextHas (step { start false 0x8000 0xE5B10004 [.r 1 0x1000, .word 0x1004 7] with
        platform := { Platform.default with aborts := [abortAt .read false 0x1004], baseUpdated := true } })
      [.cell .r14Abt 0x8008, .pc 0x10, .r 1 0x1004, .r 0 0] = true := by decide
/-- A store to the next word leaves the record that the fetch of it may be the old one (R79). -/
theorem test_store_to_next_word :
    (match step (start false 0x8000 0xE5810000 [.r 0 0x12, .r 1 0x8004, .word 0x8004 0xE1A00000]) with
      | .next t => decide (t.stale = [{ addr := 0x8004, old := some 0xE1A00000 }])
      | _ => false) = true := by decide

/-! ## Every hypothesis of the statements can be met: a state and operands for each, at the boundary values of its clauses -/

/-- `exec` or `step` answers a next state. -/
def isNext (o : Out) : Bool :=
  match o with
  | .next _ => true
  | _ => false

theorem exists_next {o : Out} (h : isNext o = true) : ∃ t, o = .next t := by
  cases o with
  | next t => exact ⟨t, rfl⟩
  | fault f => simp [isNext] at h
  | refused r => simp [isNext] at h

/-- A privileged state (svc mode) with words from 0x1000 on, a saved status and some registers. -/
def svc : State :=
  start false 0x8000 0xE1A00000
    [.cpsr 0x13, .spsr .svc 0x60000010, .r 1 0x1000, .r 2 0x13, .r 3 8, .r 4 0xFFFFFFFF, .cell .r14Svc 0x9000,
      .word 0x0FF0 0x10, .word 0x0FF4 0x11, .word 0x0FF8 0x12, .word 0x0FFC 0x13, .word 0x1000 0x80818283,
      .word 0x1004 0x9004, .word 0x1008 0x9008, .word 0x100C 0x900C]

/-- The same in usr mode. -/
def usr : State := { svc with cpsr := Psr.ofWord 0x10 }

/-- The same with a table of aborts and a base model. -/
def svcWith (aborts : List AbortEntry) (updated : Bool) : State :=
  { svc with platform := { Platform.default with aborts := aborts, baseUpdated := updated } }

/-- An instruction that stores to the next word has been executed. -/
def stored : State := { svc with stale := [{ addr := 0x8004, old := none }] }

/-- The twelve operations, the four comparisons, and operands of the three forms. -/
def dpOps : List DpOp := [.and, .eor, .sub, .rsb, .add, .adc, .sbc, .rsc, .orr, .mov, .bic, .mvn]
def cmpOps : List CmpOp := [.tst, .teq, .cmp, .cmn]
def forms : List Op2 := [.imm 0 1, .imm 15 255, .shi 0 .lsl 2, .shi 31 .ror 15, .shr 3 .asr 2]
def blockModes : List BlockMode := [.ia, .ib, .da, .db]

/-- Loads and stores of every form. -/
def loads : List Single :=
  ([false, true].flatMap fun byte =>
    [.plain true byte (.pre false) (.imm 0), .plain true byte (.pre true) (.imm 4), .plain true byte .post (.imm 0xFFF),
      .plain true byte .user (.imm 0), .plain true byte (.pre true) (.reg 0 .lsl 3), .plain true byte .post (.reg 31 .asr 2),
      .plain true byte .user (.reg 1 .lsr 3)]) ++
    [HalfOp.ldrh, .ldrsb, .ldrsh].flatMap fun op =>
      [.half op true false (.imm 0), .half op false false (.imm 255), .half op true true (.reg 3)]

def stores : List Single :=
  ([false, true].flatMap fun byte =>
    [.plain false byte (.pre false) (.imm 0), .plain false byte (.pre true) (.imm 4), .plain false byte .post (.imm 0xFFF),
      .plain false byte .user (.imm 0), .plain false byte (.pre true) (.reg 0 .lsl 3), .plain false byte .post (.reg 31 .asr 2),
      .plain false byte .user (.reg 1 .lsr 3)]) ++
    [.half .strh true false (.imm 0), .half .strh false false (.imm 255), .half .strh true true (.reg 3)]

theorem witness_EncodeDecode : decode 0xE0810002 = .ok (.addShi .al false 1 0 0 .lsl 2) := by decide

theorem witness_UndecodableWordFaults :
    (Fetches (start false 0x8000 0xF0810002 []) 0xF0810002 ∧ (0xF0810002 : Word).extractLsb' 28 4 = 15) ∧
      Fetches (start false 0x8000 0xE3000000 []) 0xE3000000 ∧ decode 0xE3000000 = .error (.unallocated 0xE3000000) ∧
      conditionHolds 14 (start false 0x8000 0xE3000000 []).cpsr = true := by
  simp only [Fetches, NothingDue]; decide

/-- An unallocated word under EQ with Z clear, at an ordinary address and at the last one. -/
theorem witness_UnallocatedWordSkips :
    (∀ a ∈ [0x8000, 0xFFFFFFFC],
      Fetches (start false a 0x03000000 [.cpsr 0x10]) 0x03000000 ∧
        conditionHolds ((0x03000000 : Word).extractLsb' 28 4) (start false a 0x03000000 [.cpsr 0x10]).cpsr = false) ∧
      decode 0x03000000 = .error (.unallocated 0x03000000) := by
  simp only [Fetches, NothingDue]; decide

theorem witness_StepRunsDecoded :
    Fetches (start true 0xFFFFFFFC 0xE0810002 []) 0xE0810002 ∧ decode 0xE0810002 = .ok (.addShi .al false 1 0 0 .lsl 2) := by
  simp only [Fetches, NothingDue]; decide

theorem witness_StepKeepsInvariant : svc.inv = true ∧ ∃ t, step svc = .next t := ⟨by decide, exists_next (by decide)⟩

/-- The lines of the five outcomes of a boundary, in order, and a prefetch abort with no sample left. -/
theorem witness_BoundaryPriority :
    (∀ l ∈ ([⟨true, true, true⟩, ⟨false, true, true⟩, ⟨false, false, true⟩, ⟨false, false, false⟩] : List Lines),
      (atBoundary 0x10 l []).cpsr.t = false ∧ l = (atBoundary 0x10 l []).lines.headD Lines.idle ∧
        [] = (atBoundary 0x10 l []).lines.tail) ∧
      (atBoundary 0x10 ⟨false, true, true⟩ []).cpsr.f = false ∧ (atBoundary 0x10 ⟨false, false, true⟩ []).cpsr.i = false ∧
      (atBoundary 0xD3 ⟨false, true, true⟩ [abortAt .fetch true 0x8010]).aborts 0x8010 4 .fetch true = true ∧
      (svcWith [abortAt .fetch true 0x8000] false).cpsr.t = false ∧
      Lines.idle = (svcWith [abortAt .fetch true 0x8000] false).lines.headD Lines.idle ∧
      (svcWith [abortAt .fetch true 0x8000] false).aborts 0x8000 4 .fetch true = true := by
  decide

/-- A record of the word at the PC stands, which held the same instruction before the store. -/
def overtaken : State := { svc with stale := [{ addr := 0x8000, old := some 0xE1A00000 }] }

theorem witness_FetchMayMissStore :
    (∀ e ∈ stored.stale, e.addr ≠ stored.pc) ∧
      ((0x8003 : Word).toNat / 4 ≠ (svc.pc + 4).toNat / 4 ∧ (0x8003 : Word).toNat / 4 ≠ (svc.pc + 8).toNat / 4) ∧
      ((0x800C : Word).toNat / 4 ≠ (svc.pc + 4).toNat / 4 ∧ (0x800C : Word).toNat / 4 ≠ (svc.pc + 8).toNat / 4) ∧
      (svc.pcAligned = true ∧ svc.pc + 4 = BitVec.ofNat 32 ((0x8007 : Word).toNat / 4 * 4) ∧
        svc.pc + 8 = BitVec.ofNat 32 ((0x8008 : Word).toNat / 4 * 4)) ∧
      ∃ t, svc.branchTo 0x9003 = .next t :=
  ⟨by decide, by decide, by decide, by decide, exists_next rfl⟩

theorem witness_FetchMayMissStore_step :
    NothingDue overtaken ∧ overtaken.fetchedWord = some 0xE1A00000 ∧
      decode 0xE1A00000 = .ok (.movShi .al false 0 0 0 .lsl 0) ∧ NothingDue { svc with pc := 0x7000 } ∧
      ({ svc with pc := 0x7000 } : State).fetchedWord = none := by
  refine ⟨by simp only [NothingDue]; decide, ?_, by decide, by simp only [NothingDue]; decide, by decide⟩
  have hm : overtaken.wordAt overtaken.pc = some 0xE1A00000 := by decide
  have hs : overtaken.missed = [{ addr := 0x8000, old := some 0xE1A00000 }] := by decide
  rw [State.fetchedWord, hm, hs]
  exact ite_self _

theorem witness_PrefetchRecordsBounded : stored.prefetchInv = true ∧ ∃ t, step stored = .next t :=
  ⟨by decide, exists_next (by decide)⟩

theorem witness_SkipWhenConditionFails :
    condPassed (Instr.cond (.mul .ne false 1 0 1 1)) { usr.cpsr with z := true } = false ∧
      condPassed (Instr.cond (.swi .mi 0)) usr.cpsr = false ∧
      ({ usr with pc := 0xFFFFFFFC } : State).pc = 0xFFFFFFFC := by decide

theorem witness_IllFormedFaults :
    Instr.wf (.mul .al false 1 0 2 1) = false ∧ condPassed (Instr.cond (.mul .al false 1 0 2 1)) usr.cpsr = true := by decide

theorem witness_BankTable : (0 : RegNum) ≠ 15 ∧ (8 : RegNum) ≠ 15 ∧ (14 : RegNum) ≠ 15 := by decide

theorem witness_RegisterAccess :
    (0 : RegNum) ≠ 15 ∧ (14 : RegNum) ≠ 15 ∧ phys svc.cpsr.m 14 ≠ some .r14 ∧ phys svc.cpsr.m 14 ≠ some .r14Fiq := by decide

theorem witness_RotatedImmediate : 0 < 32 ∧ 31 < 32 ∧ (0 : BitVec 4) = 0 ∧ (15 : BitVec 4) ≠ 0 := by decide

theorem witness_ShiftByImmediate : 0 < 32 ∧ 31 < 32 ∧ (0 : BitVec 5) = 0 ∧ (1 : BitVec 5) ≠ 0 ∧ (31 : BitVec 5) ≠ 0 := by
  decide

theorem witness_ShiftByRegister :
    (0 : BitVec 8) = 0 ∧ ∀ n ∈ ([1, 31, 32, 33, 64, 255] : List (BitVec 8)), n ≠ 0 := by decide

theorem witness_DataProcessingResult :
    ∀ op ∈ dpOps, ∀ o ∈ forms, ∀ flags ∈ [false, true],
      Ready (op.instr o .al flags 1 0) (op.regs o 1 0) svc ∧ (0 : RegNum) ≠ 15 ∧ svc.pc ≠ 0xFFFFFFFC := by
  simp only [Ready]; decide

theorem witness_DataProcessingBranch :
    ∀ op ∈ dpOps, ∀ o ∈ forms.dropLast, Ready (op.instr o .al false 1 15) (op.regs o 1 15) svc := by
  simp only [Ready]; decide

/-- No SPSR, a saved T, an illegal saved mode, and a return. -/
theorem witness_DataProcessingReturn :
    (∀ s ∈ [usr, svc, { svc with spsrSvc := Psr.ofWord 0x30 }, { svc with spsrSvc := Psr.ofWord 0x1E }],
      ∀ op ∈ dpOps, ∀ o ∈ forms.dropLast, Ready (op.instr o .al true 14 15) (op.regs o 14 15) s) ∧
      usr.spsr = none ∧ svc.spsr = some (Psr.ofWord 0x60000010) ∧ (Psr.ofWord 0x30).t = true ∧
      (Psr.ofWord 0x1E).m ∉ modeFields := by
  simp only [Ready]; decide

theorem witness_Comparison :
    ∀ op ∈ cmpOps, ∀ o ∈ forms, Ready (op.instr o .al 1 15) (1 :: o.regs) svc ∧ svc.pc ≠ 0xFFFFFFFC := by
  simp only [Ready]; decide

theorem witness_MultiplyLow :
    ∀ accumulate ∈ [false, true], ∀ flags ∈ [false, true],
      Ready (if accumulate then .mla .al flags 1 1 2 3 else .mul .al flags 1 1 2 3)
        (if accumulate then [1, 3, 2, 1] else [1, 3, 2]) svc ∧ svc.pc ≠ 0xFFFFFFFC := by
  simp only [Ready]; decide

theorem witness_MultiplyLong :
    ∀ op ∈ [LongOp.umull, .umlal, .smull, .smlal], ∀ flags ∈ [false, true],
      Ready (op.instr .al flags 1 2 4 4) [1, 2, 4, 4] svc ∧ svc.pc ≠ 0xFFFFFFFC := by
  simp only [Ready]; decide

/-- The bytes of a word at the top of the address space, and the nearest addresses outside it. -/
theorem witness_StoreThenRead :
    0 < Size.word.bytes ∧ 3 < Size.word.bytes ∧ Size.word.bytes ≤ ((2 : Word) - 0xFFFFFFFE).toNat ∧
      Size.word.bytes ≤ ((0xFFFFFFFD : Word) - 0xFFFFFFFE).toNat ∧ Size.byte.bytes ≤ ((1 : Word) - 0).toNat := by decide

theorem witness_SingleLoad :
    (∀ x ∈ loads, x.isLoad = true ∧ Ready (x.instr .al true 1 5) (1 :: 5 :: x.offsetRegs) svc ∧
      (x.address true 1 svc).toNat % x.size.bytes = 0 ∧
      svc.aborts (x.address true 1 svc) x.size.bytes .read (x.privilege svc) = false ∧
      svc.valueAt x.size (x.address true 1 svc) ≠ none ∧ (5 : RegNum) ≠ 15 ∧ svc.pc ≠ 0xFFFFFFFC) ∧
      Ready (Single.instr (.plain true false (.pre true) (.imm 4)) .al true 1 15) [1, 15] svc ∧
      svc.valueAt .word 0x1004 = some 0x9004 := by
  simp only [Ready]; decide

theorem witness_SingleStore :
    ∀ x ∈ stores, x.isLoad = false ∧ Ready (x.instr .al false 1 5) (1 :: 5 :: x.offsetRegs) svc ∧
      (x.address false 1 svc).toNat % x.size.bytes = 0 ∧
      svc.aborts (x.address false 1 svc) x.size.bytes .write (x.privilege svc) = false ∧ svc.pc ≠ 0xFFFFFFFC := by
  simp only [Ready]; decide

/-- A word at 0x1002, a halfword at 0x1001, and a word of which three bytes are written. -/
theorem witness_SingleTransferFaults :
    (Ready (Single.instr (.plain false false (.pre false) (.imm 2)) .al true 1 5) [1, 5] svc ∧
      (Single.address (.plain false false (.pre false) (.imm 2)) true 1 svc).toNat % 4 ≠ 0) ∧
      (Ready (Single.instr (.half .ldrh true false (.imm 1)) .al true 1 5) [1, 5] svc ∧
        (Single.address (.half .ldrh true false (.imm 1)) true 1 svc).toNat % 2 ≠ 0) ∧
      Ready (Single.instr (.plain true false (.pre false) (.imm 16)) .al true 1 5) [1, 5] svc ∧
      svc.aborts 0x1010 4 .read true = false ∧ svc.valueAt .word 0x1010 = none := by
  simp only [Ready]; decide

theorem witness_SingleTransferAborts :
    ∀ updated ∈ [false, true],
      (Ready (Single.instr (.plain true false (.pre true) (.imm 4)) .al true 1 5) [1, 5]
          (svcWith [abortAt .read true 0x1004] updated) ∧
        (svcWith [abortAt .read true 0x1004] updated).aborts 0x1004 4 .read true = true) ∧
        Ready (Single.instr (.plain false false .user (.imm 4)) .al true 1 5) [1, 5]
          (svcWith [abortAt .write false 0x1000] updated) ∧
        (svcWith [abortAt .write false 0x1000] updated).aborts 0x1000 4 .write false = true := by
  simp only [Ready]; decide

/-- The two words that each mode of LDM reads from the base 0x1000. -/
def twoWords : BlockMode → List Word
  | .ia => [0x80818283, 0x9004]
  | .ib => [0x9004, 0x9008]
  | .da => [0x13, 0x80818283]
  | .db => [0x12, 0x13]

theorem witness_LoadMultiple :
    ∀ k ∈ blockModes,
      (Ready (ldm k .al false true 1 0x0060) (1 :: listed 0x0060) svc ∧ blockReads svc k 1 0x0060 (twoWords k) ∧
        svc.pc ≠ 0xFFFFFFFC) ∧
        Ready (ldm k .al false true 1 0x8020) (1 :: listed 0x8020) svc ∧ blockReads svc k 1 0x8020 (twoWords k) ∧
        (0x8020 : BitVec 16).getLsbD 15 = true ∧ (twoWords k).getLast? ≠ none := by
  simp only [Ready, blockReads]; decide

theorem witness_LoadMultipleReturn :
    (Ready (ldm .ia .al true true 1 0x8020) (1 :: listed 0x8020) usr ∧ usr.privileged = false) ∧
      (Ready (ldm .ia .al true true 1 0x8020) (1 :: listed 0x8020) { svc with cpsr := Psr.ofWord 0x1F } ∧
        ({ svc with cpsr := Psr.ofWord 0x1F } : State).privileged = true ∧
        ({ svc with cpsr := Psr.ofWord 0x1F } : State).spsr = none) ∧
      ∀ k ∈ blockModes, Ready (ldm k .al true true 1 0x8020) (1 :: listed 0x8020) svc ∧
        blockReads svc k 1 0x8020 (twoWords k) ∧ svc.spsr = some (Psr.ofWord 0x60000010) := by
  simp only [Ready, blockReads]; decide

theorem witness_LoadMultipleUserBank :
    (Ready (ldm .ia .al true false 1 0x6000) [1] usr ∧ usr.privileged = false) ∧
      ∀ k ∈ blockModes, Ready (ldm k .al true false 1 0x6000) [1] svc ∧ (0x6000 : BitVec 16).getLsbD 15 = false ∧
        svc.privileged = true ∧ blockReads svc k 1 0x6000 (twoWords k) ∧ svc.pc ≠ 0xFFFFFFFC := by
  simp only [Ready, blockReads]; decide

theorem witness_StoreMultiple :
    ∀ k ∈ blockModes, ∀ caret ∈ [false, true],
      Ready (stm k .al caret (!caret) 1 0x4002) (if caret then [1] else 1 :: listed 0x4002) svc ∧
        svc.privileged = true ∧ (svc.readReg 1).toNat % 4 = 0 ∧ blockWrites svc k 1 0x4002 ∧ svc.pc ≠ 0xFFFFFFFC := by
  simp only [Ready, blockWrites]; decide

/-- STMIA to the two words that follow it: a record of each. -/
theorem test_stm_records :
    (match step (start false 0x8000 0xE8810005 [.r 1 0x8004, .word 0x8004 0xE1A00000, .word 0x8008 7]) with
      | .next t => decide (t.stale = [{ addr := 0x8004, old := some 0xE1A00000 }, { addr := 0x8008, old := some 7 }])
      | _ => false) = true := by decide

/-- A misaligned base, a word not written after one that is, and STM with `^` in usr mode. -/
theorem witness_BlockTransferFaults :
    (∀ k ∈ blockModes, ∀ caret ∈ [false, true],
      Ready (ldm k .al caret false 2 0x4002) (blockNamed caret 2 0x4002) svc ∧
        Ready (stm k .al caret false 2 0x4002) (blockNamed caret 2 0x4002) svc ∧ svc.privileged = true ∧
        (svc.readReg 2).toNat % 4 ≠ 0) ∧
      (Ready (ldm .ib .al false false 1 0x00F0) (blockNamed false 1 0x00F0) svc ∧ 3 < (listed 0x00F0).length ∧
        (∀ j (h : j < ([0x9004, 0x9008, 0x900C] : List Word).length),
          svc.memRead svc.privileged .word (blockAddress .ib (svc.readReg 1) 0x00F0 j) =
            .ok ([0x9004, 0x9008, 0x900C] : List Word)[j]) ∧
        svc.memRead svc.privileged .word (blockAddress .ib (svc.readReg 1) 0x00F0 3) = .fault (.unwritten 0x1010)) ∧
      Ready (stm .ia .al true false 1 0x4002) (blockNamed true 1 0x4002) usr ∧ usr.privileged = false := by
  simp only [Ready]; decide

/-- An abort at the first access and at a later one, under both base models, with `!` and without. -/
theorem witness_LoadMultipleAborts :
    ∀ updated ∈ [false, true],
      (∀ w ∈ [false, true], Ready (ldm .ia .al false w 1 0x00E0) (blockNamed false 1 0x00E0) (svcWith [abortAt .read true 0x1000] updated) ∧
        (svcWith [abortAt .read true 0x1000] updated).memRead true .word (blockAddress .ia 0x1000 0x00E0 0) = .abort) ∧
        Ready (ldm .ia .al true true 1 0x8060) (blockNamed true 1 0x8060) (svcWith [abortAt .read true 0x1008] updated) ∧
        (svcWith [abortAt .read true 0x1008] updated).privileged = true ∧
        (svcWith [abortAt .read true 0x1008] updated).spsr ≠ none ∧ 2 < (listed 0x8060).length ∧
        (∀ j (h : j < ([0x80818283, 0x9004] : List Word).length),
          (svcWith [abortAt .read true 0x1008] updated).memRead true .word (blockAddress .ia 0x1000 0x8060 j) =
            .ok ([0x80818283, 0x9004] : List Word)[j]) ∧
        (svcWith [abortAt .read true 0x1008] updated).memRead true .word (blockAddress .ia 0x1000 0x8060 2) = .abort := by
  simp only [Ready]; decide

theorem witness_StoreMultipleAborts :
    ∀ updated ∈ [false, true], ∀ caret ∈ [false, true],
      Ready (stm .ia .al caret (!caret) 1 0x4006) (if caret then [1] else 1 :: listed 0x4006)
          (svcWith [abortAt .write true 0x1008] updated) ∧
        (svcWith [abortAt .write true 0x1008] updated).privileged = true ∧ 2 < (listed 0x4006).length ∧
        (∀ j, j < 2 → (svcWith [abortAt .write true 0x1008] updated).aborts (blockAddress .ia 0x1000 0x4006 j) 4 .write true =
          false) ∧
        (svcWith [abortAt .write true 0x1008] updated).aborts (blockAddress .ia 0x1000 0x4006 2) 4 .write true = true := by
  simp only [Ready]; decide

theorem witness_SwapExchanges :
    ∀ byte ∈ [false, true],
      Ready (if byte then .swpb .al 1 2 2 else .swp .al 1 2 2) [1, 2, 2] svc ∧ (svc.readReg 1).toNat % 4 = 0 ∧
        svc.aborts (svc.readReg 1) (if byte then 1 else 4) .read true = false ∧
        svc.aborts (svc.readReg 1) (if byte then 1 else 4) .write true = false ∧
        svc.valueAt .byte (svc.readReg 1) = some 0x83 ∧ svc.valueAt .word (svc.readReg 1) = some 0x80818283 ∧
        svc.pc ≠ 0xFFFFFFFC := by
  simp only [Ready]; decide

theorem witness_SwapAborts :
    (Ready (.swp .al 1 2 3) [1, 2, 3] (svcWith [abortAt .read true 0x1000] false) ∧
      (svcWith [abortAt .read true 0x1000] false).aborts 0x1000 4 .read true = true) ∧
      Ready (.swp .al 1 2 3) [1, 2, 3] (svcWith [abortAt .write true 0x1000] false) ∧
      (svcWith [abortAt .write true 0x1000] false).aborts 0x1000 4 .write true = true ∧
      (svcWith [abortAt .write true 0x1000] false).valueAt .word 0x1000 ≠ none := by
  simp only [Ready]; decide

theorem witness_BranchTarget :
    Ready (.b .al 0x7FFFFF) [] svc ∧ Ready (.bl .al 0x800000) [14] svc ∧ svc.pcAligned = true := by
  simp only [Ready]; decide

theorem witness_BranchExchange :
    (Ready (.bx .al 1) [1] svc ∧ (svc.readReg 1).toNat % 4 = 0) ∧
      (Ready (.bx .al 2) [2] svc ∧ (svc.readReg 2).toNat % 2 = 1) ∧
      Ready (.bx .al 2) [2] { svc with regs := svc.regs.set .r2 2 } ∧
      (({ svc with regs := svc.regs.set .r2 2 } : State).readReg 2).toNat % 4 = 2 := by
  simp only [Ready]; decide

theorem witness_MoveFromStatus :
    ∀ spsr ∈ [false, true], ∀ s ∈ [usr, svc], Ready (.mrs .al spsr 14) [14] s ∧ s.pc ≠ 0xFFFFFFFC := by
  simp only [Ready]; decide

/-- A mode change, an illegal mode, and a change of T; in usr mode the control field is ignored. -/
theorem witness_MoveToCpsr :
    ∀ s ∈ [svc, usr], ∀ x ∈ [MsrSource.reg 2, .imm 0 0x14, .imm 0 0x3F, .imm 4 0xF0], ∀ mask ∈ ([0, 1, 8, 9] : List (BitVec 4)),
      Ready (x.instr .al false mask) x.regs s ∧ s.pc ≠ 0xFFFFFFFC := by
  simp only [Ready]; decide

theorem witness_MoveToSpsr :
    (∀ s ∈ [svc, usr], ∀ x ∈ [MsrSource.reg 2, .imm 0 0x14, .imm 0 0x3F], ∀ mask ∈ ([0, 1, 8, 9] : List (BitVec 4)),
      Ready (x.instr .al true mask) x.regs s ∧ s.pc ≠ 0xFFFFFFFC) ∧
      usr.spsr = none ∧ svc.spsr = some (Psr.ofWord 0x60000010) ∧
      (MsrSource.value (.imm 0 0x14) svc).setWidth 5 ∉ modeFields ∧ (MsrSource.value (.reg 2) svc).setWidth 5 ∈ modeFields := by
  simp only [Ready]; decide

theorem witness_SoftwareInterrupt : condPassed .al usr.cpsr = true := by decide

theorem witness_UndefinedInstruction :
    condPassed (Instr.cond (.undefined .al 0 0)) usr.cpsr = true ∧
      (∀ i ∈ ([.ldc .al true true false false 1 2 15 3, .stc .al true true false false 1 2 0 3, .cdp .al 1 2 3 4 5 6,
          .mcr .al 1 2 3 4 5 6, .mrc .al 1 2 3 4 5 6] : List Instr),
        condPassed i.cond usr.cpsr = true ∧ coprocessorOf i ≠ none) ∧
      (15 : BitVec 4) ∉ usr.platform.coprocessors ∧ (0 : BitVec 4) ∉ usr.platform.coprocessors ∧
      (15 : BitVec 4) ∈ ({ Platform.default with coprocessors := [15] } : Platform).coprocessors := by decide

theorem witness_ExceptionEntry :
    ∀ e ∈ [Exc.undefined, .swi, .prefetchAbort, .dataAbort, .irq, .fiq], e ≠ .reset := by decide

theorem witness_ExceptionReturnResumes :
    usr.inv = true ∧ ({ svc with pc := 0xFFFFFFFC } : State).inv = true ∧
      ∀ e ∈ [Exc.undefined, .swi, .prefetchAbort, .dataAbort, .irq, .fiq], e ≠ .reset := by decide

theorem witness_ResetAtBoundary :
    (atBoundary 0x10 ⟨true, false, false⟩ []).cpsr.t = false ∧
      (atBoundary 0x10 ⟨true, false, false⟩ []).lines = ⟨true, false, false⟩ :: [] := by decide

theorem witness_UserBankHazardFaults :
    Names (MsrSource.instr (.reg 13) .al false 9) [13] ∧ Instr.wf (.msrReg .al false 9 13) = true ∧
      condPassed .al ({ svc with afterUserBank := true } : State).cpsr = true ∧
      ∃ r ∈ ([13] : List RegNum), phys svc.cpsr.m r ≠ phys 0b10000 r := by
  refine ⟨?_, by decide, by decide, by decide⟩
  unfold Names
  iterate 11 right
  exact ⟨.reg 13, .al, false, 9, rfl, rfl⟩

/-- A step that stays in usr mode, and one that leaves it by SWI. -/
theorem witness_UserMode :
    (usr.cpsr.m = 0b10000 ∧ nextHas (step usr) [.cpsr 0x10] = true) ∧
      (start false 0x8000 0xEF000000 []).cpsr.m = 0b10000 ∧
      nextHas (step (start false 0x8000 0xEF000000 [])) [.cpsr 0x93] = true := by decide

theorem witness_FlagsWrittenOnlyByNamed :
    mayWriteFlags (.addImm .al false 1 0 0 1) = false ∧ ∃ t, exec (.addImm .al false 1 0 0 1) svc = .next t :=
  ⟨by decide, exists_next (by decide)⟩

theorem witness_MemoryWrittenOnlyByStores :
    mayWriteMemory (.addImm .al false 1 0 0 1) = false ∧ ∃ t, exec (.addImm .al false 1 0 0 1) svc = .next t :=
  ⟨by decide, exists_next (by decide)⟩

/-- An instruction that goes on, and at the last address one that takes an exception. -/
theorem witness_PcAdvancesOrTraps :
    (mayWritePc (.addImm .al false 1 0 0 1) = false ∧ ∃ t, exec (.addImm .al false 1 0 0 1) svc = .next t) ∧
      mayWritePc (.swi .al 0) = false ∧ ∃ t, exec (.swi .al 0) { svc with pc := 0xFFFFFFFC } = .next t :=
  ⟨⟨by decide, exists_next (by decide)⟩, by decide, exists_next (by decide)⟩

theorem witness_PlatformNeverChanges : ∃ t, step { svc with lines := [⟨false, false, true⟩, Lines.idle] } = .next t :=
  exists_next (by decide)

end Sys2Proof.Tests
end

section
/-! PROOFS. The registers' banks and the state after reset (`10_state.md`, `70_reset_and_hazards.md`). -/

namespace Sys2Proof.Proofs

open Sys2Proof.Machine Sys2Proof.Claims

/-! ### The rows of the bank table of `10_state.md` R22 -/

/-- Rows R0 to R7: one register for all modes. -/
theorem phys_eq_of_lt_eight (m k : BitVec 5) {i : RegNum} (hi : i.toNat < 8) : phys m i = phys k i := by
  revert hi
  induction i using regNum_cases <;> simp [phys]

/-- The fiq mode field belongs to no other mode. -/
theorem bits_eq_fiq {m : Mode} : m.bits = Mode.fiq.bits ↔ m = .fiq := by
  cases m <;> decide

/-- Rows R8 to R12: fiq has a register of its own, and every other mode uses the usr one. -/
theorem phys_eq_iff_of_lt_thirteen (m k : Mode) {i : RegNum} (hlo : 8 ≤ i.toNat) (hhi : i.toNat < 13) :
    phys m.bits i = phys k.bits i ↔ (m = .fiq ↔ k = .fiq) := by
  revert hlo hhi
  induction i using regNum_cases <;> by_cases hm : m = .fiq <;> by_cases hk : k = .fiq <;>
    simp [phys, bits_eq_fiq, hm, hk]

/-- Row R13: a register for each exception mode, and one that usr and sys share. -/
theorem bankR13_eq_iff (m k : Mode) :
    bankR13 m.bits = bankR13 k.bits ↔ m = k ∨ (m = .usr ∨ m = .sys) ∧ (k = .usr ∨ k = .sys) := by
  cases m <;> cases k <;> decide

/-- Row R14 is divided among the modes as row R13 is. -/
theorem bankR14_eq_iff (m k : Mode) : bankR14 m.bits = bankR14 k.bits ↔ bankR13 m.bits = bankR13 k.bits := by
  cases m <;> cases k <;> decide

/-- Rows R13 and R14: the names select one register exactly where the two modes have one R13. -/
theorem phys_eq_iff_of_ge_thirteen (m k : Mode) {i : RegNum} (hlo : 13 ≤ i.toNat) (hi : i ≠ 15) :
    phys m.bits i = phys k.bits i ↔ bankR13 m.bits = bankR13 k.bits := by
  have h : i = 13 ∨ i = 14 := by bv_omega
  obtain rfl | rfl := h
  · simp [phys]
  · simpa [phys] using bankR14_eq_iff m k

/-! ### The table as a whole -/

/-- `sharesCell` is the bank table: it holds exactly where two modes select one register for a name. -/
theorem phys_eq_iff_sharesCell (m k : Mode) {i : RegNum} (hi : i ≠ 15) :
    phys m.bits i = phys k.bits i ↔ sharesCell m k i = true := by
  by_cases hlow : i.toNat < 8
  · simp [phys_eq_of_lt_eight m.bits k.bits hlow, sharesCell, hlow]
  by_cases hmid : i.toNat < 13
  · rw [phys_eq_iff_of_lt_thirteen m k (by omega) hmid]
    by_cases hm : m = .fiq <;> by_cases hk : k = .fiq <;> simp [sharesCell, hlow, hmid, hm, hk, eq_comm (a := Mode.fiq)]
  · rw [phys_eq_iff_of_ge_thirteen m k (by omega) hi, bankR13_eq_iff]
    simp [sharesCell, hlow, hmid]

/-- Names of two modes select one register exactly where they are one name and the modes share its cell. -/
theorem phys_eq_phys_iff (m k : Mode) {i j : RegNum} (hi : i ≠ 15) :
    phys m.bits i = phys k.bits j ↔ i = j ∧ sharesCell m k i = true := by
  constructor
  · intro h
    obtain ⟨p, hp⟩ := phys_isSome m.bits hi
    have hij : i = j := (phys_number hp).symm.trans (phys_number (h ▸ hp))
    subst hij
    exact ⟨rfl, (phys_eq_iff_sharesCell m k hi).1 h⟩
  · rintro ⟨rfl, hs⟩
    exact (phys_eq_iff_sharesCell m k hi).2 hs

/-- The cell of a name after a write under a name: the value where both select one register, and otherwise what it was. -/
theorem cell_write (g : Regs) (m k : BitVec 5) (i : RegNum) {j : RegNum} (hj : j ≠ 15) (v : Word) :
    cell (g.write m i v) k j = if phys m i = phys k j then v else cell g k j := by
  obtain ⟨q, hq⟩ := phys_isSome k hj
  simp [cell, hq, Regs.get_write]

/-- Settles O15: the cell after a write is decided by the registers that the two names select, and these agree exactly where
the table shares the cell. -/
theorem bankTable : Obligations.BankTable := by
  unfold Obligations.BankTable
  refine ⟨fun m => phys_15 m.bits, fun g m k i j v hi hj => ?_⟩
  simp only [cell_write g m.bits k.bits i hj v, phys_eq_phys_iff m k hi]

/-! ### Reset -/

/-- Settles O8: the fields of the reset state, read off its definition (R35, R54, R336). -/
theorem resetValues : Obligations.ResetValues := by
  unfold Obligations.ResetValues
  exact ⟨rfl, rfl, rfl, rfl, rfl⟩

end Sys2Proof.Proofs
end

section
/-! PROOFS. What a fetched word that is no instruction does (`30_encoding.md`). -/

namespace Sys2Proof.Proofs

open Sys2Proof.Machine Sys2Proof.Claims

/-! ### The condition field of a word -/

/-- A condition field that names a condition is the encoding of that condition (R130). -/
theorem condBits_of_ofBits {x : BitVec 4} {c : Cond} (h : Cond.ofBits x = some c) : x = c.bits := by
  revert h
  unfold Cond.ofBits
  split <;> intro h <;> cases h <;> exact BitVec.eq_of_toNat_eq (by assumption)

/-- The one field that names no condition is 1111 (R133). -/
theorem condOfBits_eq_none_iff {x : BitVec 4} : Cond.ofBits x = none ↔ x = 15 := by
  revert x; decide

/-- The condition test of the model is the pseudocode of R131. -/
theorem condPassed_eq_conditionHolds (c : Cond) (p : Psr) : condPassed c p = conditionHolds c.bits p := by
  cases c <;> simp [condPassed, conditionHolds, Cond.bits, Bool.and_comm, Bool.or_comm, bne]

/-- The test of a word's condition field is the pseudocode of R131, for 1111 as well. -/
theorem wordPasses_eq_conditionHolds (s : State) (w : Word) :
    s.wordPasses w = conditionHolds (field 28 4 w) s.cpsr := by
  unfold State.wordPasses
  cases hc : Cond.ofBits (field 28 4 w) with
  | none => simp [condOfBits_eq_none_iff.1 hc, conditionHolds]
  | some c => simp [condBits_of_ofBits hc, condPassed_eq_conditionHolds]

/-- No word with condition field 1111 is an instruction (R117). -/
theorem decode_of_condField_15 {w : Word} (h : field 28 4 w = 15) : decode w = .error (.condition15 w) := by
  simp [decode, condOfBits_eq_none_iff.2 h]

/-! ### The boundary at which nothing is due -/

/-- A boundary uses the first sample of the lines, or the idle one where none is left (R52, D13). -/
theorem sample_eq (s : State) : s.sample = (s.lines.headD Lines.idle, afterSample s) := by
  unfold State.sample afterSample
  cases h : s.lines with
  | nil =>
    have hs : { s with lines := [] } = s := by rw [← h]
    exact congrArg (Lines.idle, ·) hs.symm
  | cons l rest => rfl

/-- The word at the PC is misaligned exactly where the PC is not aligned (R30, R65). -/
theorem misaligned_pc_eq (s : State) : Size.word.misaligned s.pc = !s.pcAligned := by
  simp [Size.misaligned, Size.bytes, State.pcAligned, bne, beq_eq_decide]

/-- With no unmasked request and no abort of the fetch, the order of R305 comes to the fetch. -/
theorem arbitrate_eq_fetch {s : State} {l : Lines} (hreset : l.reset = false) (hfiq : l.fiq = true → s.cpsr.f = true)
    (hirq : l.irq = true → s.cpsr.i = true) (habort : s.aborts s.pc 4 .fetch s.privileged = false) :
    s.arbitrate l = s.fetch := by
  have hf : ¬ (l.fiq && !s.cpsr.f) = true := by simpa using hfiq
  have hi : ¬ (l.irq && !s.cpsr.i) = true := by simpa using hirq
  simp [State.arbitrate, hreset, hf, hi, habort]

/-- Where nothing is due the boundary is a fetch, with this boundary's sample of the lines used up. -/
theorem boundary_of_nothingDue {s : State} (h : NothingDue s) : s.boundary = (afterSample s).fetch := by
  obtain ⟨ht, -, hreset, hfiq, hirq, habort⟩ := h
  have harb := arbitrate_eq_fetch (s := afterSample s) hreset hfiq hirq habort
  simpa [State.boundary, ht, sample_eq] using harb

/-- With no record of a store to the word at the PC, the fetch returns the word in memory (R79). -/
theorem fetchedWord_of_no_record {s : State} (h : ∀ e ∈ s.stale, e.addr ≠ s.pc) : s.fetchedWord = s.wordAt s.pc := by
  have hm : s.missed = [] := by simpa [State.missed] using h
  simp [State.fetchedWord, hm, chooseFetched]

/-- The boundary at which a word is fetched is a fetch that passes the alignment check and returns that word. -/
theorem boundary_of_fetches {s : State} {w : Word} (h : Fetches s w) :
    s.boundary = (afterSample s).fetch ∧ Size.word.misaligned (afterSample s).pc = false ∧
      (afterSample s).fetchedWord = some w := by
  obtain ⟨hdue, hrecord, hword⟩ := h
  have hboundary := boundary_of_nothingDue hdue
  obtain ⟨-, haligned, -⟩ := hdue
  have hpc : Size.word.misaligned s.pc = false := by simp [misaligned_pc_eq, haligned]
  exact ⟨hboundary, hpc, (fetchedWord_of_no_record hrecord).trans hword⟩

/-! ### A fetched word that is no instruction -/

/-- A word with condition field 1111 stops the machine at its fetch, whatever its other bits (R117). -/
theorem step_of_condField_15 {s : State} {w : Word} (h : Fetches s w) (hw : field 28 4 w = 15) :
    step s = .fault (.condition15 w) := by
  obtain ⟨hboundary, hpc, hfetched⟩ := boundary_of_fetches h
  have hstop : s.boundary = .stop (.condition15 w) := by
    simp [hboundary, State.fetch, hpc, hfetched, decode_of_condField_15 hw]
  simp [step, hstop]

/-- An unallocated word stops the machine where its condition holds (R121, U2). -/
theorem step_of_unallocated {s : State} {w : Word} (h : Fetches s w) (hd : decode w = .error (.unallocated w))
    (hc : conditionHolds (field 28 4 w) s.cpsr = true) : step s = .fault (.unallocated w) := by
  obtain ⟨hboundary, hpc, hfetched⟩ := boundary_of_fetches h
  have hpass : (afterSample s).wordPasses w = true := (wordPasses_eq_conditionHolds (afterSample s) w).trans hc
  have hstop : s.boundary = .stop (.unallocated w) := by
    simp [hboundary, State.fetch, hpc, hfetched, hd, hpass]
  simp [step, hstop]

/-- Settles O4: the boundary is a fetch of the word, the decoder answers an error for it, and the fetch stops there. -/
theorem undecodableWordFaults : Obligations.UndecodableWordFaults := by
  unfold Obligations.UndecodableWordFaults
  exact fun s w h => ⟨step_of_condField_15 h, step_of_unallocated h⟩

end Sys2Proof.Proofs
end

section
/-! PROOFS. The condition test (`40_conditional_execution.md`). -/

namespace Sys2Proof.Proofs

open Sys2Proof.Machine Sys2Proof.Claims

/-- Settles O12: row by row, the "true when" column of R130 is what the pseudocode of R131 computes from the encoding of the
condition (`condPassed_eq_conditionHolds`). -/
theorem conditionTable : Obligations.ConditionTable := by
  unfold Obligations.ConditionTable
  exact condPassed_eq_conditionHolds

end Sys2Proof.Proofs
end

section
/-! PROOFS. LDM without `^` (`44_load_store_multiple.md`). -/

namespace Sys2Proof.Proofs

open Sys2Proof.Machine Sys2Proof.Claims

/-! ### The registers of a list and the addresses of its words (R115, R232) -/

/-- The sixteen names that the claims filter are the numbers that the model filters. -/
theorem regList_eq_listed (list : BitVec 16) : regList list = listed list := by
  have names : ([0, 1, 2, 3, 4, 5, 6, 7, 8, 9, 10, 11, 12, 13, 14, 15] : List RegNum) =
      (List.range 16).map (BitVec.ofNat 4) := by decide
  unfold regList listed
  rw [names, List.filter_map]
  refine congrArg _ (List.filter_congr fun i hi => ?_)
  have hlt : i < 16 := List.mem_range.1 hi
  simp [Nat.mod_eq_of_lt hlt]

theorem start_eq_blockStart (k : BlockMode) (base : Word) (list : BitVec 16) :
    k.start base list = blockStart k base list := by
  cases k <;> simp only [BlockMode.start, blockStart, blockBytes, listBytes, regList_eq_listed]

theorem final_eq_blockFinal (k : BlockMode) (base : Word) (list : BitVec 16) :
    k.final base list = blockFinal k base list := by
  cases k <;> simp only [BlockMode.final, blockFinal, blockBytes, listBytes, regList_eq_listed]

theorem listed_nodup (list : BitVec 16) : (listed list).Nodup := List.Nodup.filter _ (by decide)

theorem mem_listed {list : BitVec 16} {r : RegNum} : r ∈ listed list ↔ list.getLsbD r.toNat = true := by
  induction r using regNum_cases <;> simp [listed]

/-- R15 is the last register of a list that holds it, so that its word is the one at the highest address. -/
theorem getLast?_listed {list : BitVec 16} (h : list.getLsbD 15 = true) : (listed list).getLast? = some 15 := by
  rw [← regList_eq_listed, regList, List.range_succ, List.filter_append]
  simp [h]

/-! ### The words read (R234) -/

/-- Where every access of an LDM can be read, the reads give each register its word; `State.readMany_ok` is the converse. -/
theorem readMany_of_reads {s : State} {p : Bool} {a : Word} {rs : List RegNum} {vals : List Word}
    (hlen : vals.length = rs.length)
    (hread : ∀ j (h : j < vals.length), s.memRead p .word (a + BitVec.ofNat 32 (4 * j)) = .ok vals[j]) :
    s.readMany p a rs = .ok (rs.zip vals) := by
  induction rs generalizing a vals with
  | nil => rfl
  | cons r rs ih =>
    cases vals with
    | nil => cases hlen
    | cons v vals =>
      have hfirst : s.memRead p .word a = .ok v := (congrArg _ a.add_zero.symm).trans (hread 0 (by simp))
      have hrest : s.readMany p (a + 4) rs = .ok (rs.zip vals) := by
        refine ih (by simpa using hlen) fun j hj => ?_
        have hnext : a + BitVec.ofNat 32 (4 * (j + 1)) = a + 4 + BitVec.ofNat 32 (4 * j) := by
          rw [Nat.mul_add, BitVec.ofNat_add]; bv_omega
        exact (congrArg _ hnext.symm).trans (hread (j + 1) (by simpa using hj))
      simp only [State.readMany, hfirst, hrest, List.zip_cons_cons]

theorem pcWord_eq_none {pairs : List (RegNum × Word)} (h : ∀ e ∈ pairs, e.1 ≠ 15) : pcWord pairs = none := by
  induction pairs with
  | nil => rfl
  | cons e rest ih =>
    obtain ⟨he, hrest⟩ := List.forall_mem_cons.1 h
    exact (if_neg he).trans (ih hrest)

/-- With no register listed twice, the word beside R15 is the one that the PC receives. -/
theorem pcWord_eq_some {pairs : List (RegNum × Word)} {v : Word} (hnodup : (pairs.map Prod.fst).Nodup)
    (h : (15, v) ∈ pairs) : pcWord pairs = some v := by
  induction pairs with
  | nil => cases h
  | cons e rest ih =>
    obtain ⟨hnew, hrest⟩ := List.nodup_cons.1 hnodup
    obtain rfl | htail := List.mem_cons.1 h
    · rfl
    · have he : e.1 ≠ 15 := fun h15 => hnew (h15 ▸ List.mem_map_of_mem htail)
      exact (if_neg he).trans (ih hrest htail)

/-- Without R15 in the list no word read is the PC's. -/
theorem pcWord_of_not_listed {list : BitVec 16} (vals : List Word) (h : list.getLsbD 15 = false) :
    pcWord ((listed list).zip vals) = none := by
  refine pcWord_eq_none fun e he h15 => ?_
  obtain ⟨hmem, -⟩ := List.of_mem_zip he
  rw [h15, mem_listed] at hmem
  exact Bool.false_ne_true (h.symm.trans hmem)

/-- With R15 in the list the last word read is the PC's. -/
theorem pcWord_of_listed {list : BitVec 16} {vals : List Word} {v : Word} (hlen : vals.length = (listed list).length)
    (h : list.getLsbD 15 = true) (hv : vals.getLast? = some v) : pcWord ((listed list).zip vals) = some v := by
  have hreg := getLast?_listed h
  rw [List.getLast?_eq_getElem?] at hreg hv
  rw [hlen] at hv
  have hlast := (List.getElem?_zip_eq_some (z := (15, v))).2 ⟨hreg, hv⟩
  refine pcWord_eq_some ?_ (List.mem_of_getElem? hlast)
  rw [List.map_fst_zip hlen.ge]
  exact listed_nodup list

/-! ### The registers written (R232, R234) -/

/-- The registers an LDM of the current mode writes, one after the other; R15 changes none of them. -/
theorem writeRegs_eq_loadRegs (s : State) (pairs : List (RegNum × Word)) :
    s.writeRegs false pairs = { s with regs := loadRegs s.cpsr.m pairs s.regs } := by
  induction pairs generalizing s with
  | nil => rfl
  | cons e rest ih =>
    obtain ⟨r, v⟩ := e
    by_cases hr : r = 15
    · subst hr
      simp [State.writeRegs, loadRegs, ih]
    · rw [State.writeRegs, if_neg hr, if_neg Bool.false_ne_true, s.writeReg_of_ne v hr, ih]
      rfl

theorem writeBase_eq_blockBase (s : State) {rn : RegNum} (hrn : rn ≠ 15) (w : Bool) (final : Word) :
    s.writeBase rn (if w then some final else none) = { s with regs := blockBase w s.cpsr.m rn final s.regs } := by
  cases w
  · rfl
  · exact s.writeReg_of_ne final hrn

/-- Bits [1:0] of a word written to the PC are discarded (R33): the word is rounded down to a multiple of 4. -/
theorem and_pcMask_eq (v : Word) : v &&& 0xFFFFFFFC = BitVec.ofNat 32 (v.toNat / 4 * 4) := by
  have hmask : v >>> 2 <<< 2 = v &&& 0xFFFFFFFC := BitVec.shiftLeft_ushiftRight
  rw [← hmask]
  apply BitVec.eq_of_toNat_eq
  simp [Nat.shiftRight_eq_div_pow, Nat.shiftLeft_eq]

/-- The state an LDM of the current mode leaves before the PC is assigned: the listed registers, then the base. -/
def loaded (s : State) (w : Bool) (rn : RegNum) (final : Word) (pairs : List (RegNum × Word)) : State :=
  { s with regs := blockBase w s.cpsr.m rn final (loadRegs s.cpsr.m pairs s.regs) }

theorem writeBase_writeRegs_eq_loaded (s : State) {rn : RegNum} (hrn : rn ≠ 15) (w : Bool) (final : Word)
    (pairs : List (RegNum × Word)) :
    (s.writeRegs false pairs).writeBase rn (if w then some final else none) = loaded s w rn final pairs := by
  rw [writeRegs_eq_loadRegs, writeBase_eq_blockBase _ hrn, loaded]

/-- Without a word for R15 the next instruction follows. -/
theorem finishLoads_of_pcWord_none (s : State) {rn : RegNum} (hrn : rn ≠ 15) (w : Bool) (final : Word)
    {pairs : List (RegNum × Word)} (h : pcWord pairs = none) :
    s.finishLoads false rn (if w then some final else none) pairs = (loaded s w rn final pairs).advance := by
  simp [State.finishLoads, h, writeBase_writeRegs_eq_loaded s hrn]

/-- The word for R15 is a branch target, taken after the other registers are written (R234). -/
theorem finishLoads_of_pcWord_some (s : State) {rn : RegNum} (hrn : rn ≠ 15) (w : Bool) (final : Word)
    {pairs : List (RegNum × Word)} {v : Word} (h : pcWord pairs = some v) :
    s.finishLoads false rn (if w then some final else none) pairs = (loaded s w rn final pairs).branchTo v := by
  simp [State.finishLoads, h, writeBase_writeRegs_eq_loaded s hrn]

/-! ### The instruction -/

theorem exec_ldm (k : BlockMode) (c : Cond) (caret w : Bool) (rn : RegNum) (list : BitVec 16) (s : State) :
    exec (ldm k c caret w rn list) s =
      guarded c (ldmForm caret w rn list) (blockRegs caret rn list) s (s.loadMultiple k caret w rn list) := by
  cases k <;> rfl

theorem cond_ldm (k : BlockMode) (c : Cond) (caret w : Bool) (rn : RegNum) (list : BitVec 16) :
    (ldm k c caret w rn list).cond = c := by
  cases k <;> rfl

theorem wf_ldm (k : BlockMode) (c : Cond) (caret w : Bool) (rn : RegNum) (list : BitVec 16) :
    (ldm k c caret w rn list).wf = (ldmOk w rn list && userFormOk caret w list) := by
  cases k <;> rfl

/-- A block load that is ready is the transfer itself: neither its operands nor the hazard of R365 stop it. -/
theorem exec_ldm_of_ready {k : BlockMode} {c : Cond} {caret w : Bool} {rn : RegNum} {list : BitVec 16} {s : State}
    (h : Ready (ldm k c caret w rn list) (blockNamed caret rn list) s) :
    exec (ldm k c caret w rn list) s = s.loadMultiple k caret w rn list := by
  obtain ⟨hwf, hcond, hhazard⟩ := h
  rw [wf_ldm, Bool.and_eq_true] at hwf
  obtain ⟨hldm, huser⟩ := hwf
  rw [cond_ldm] at hcond
  have hform : ldmForm caret w rn list = none := by simp [ldmForm, hldm, huser]
  have hnamed : blockRegs caret rn list = blockNamed caret rn list := by
    rw [blockRegs, blockNamed, regList_eq_listed]
  rw [exec_ldm, hform, hnamed, guarded_run _ hcond hhazard]

/-- R15 as the base has no meaning (R236). -/
theorem base_ne_15_of_ready {k : BlockMode} {c : Cond} {caret w : Bool} {rn : RegNum} {list : BitVec 16}
    {named : List RegNum} {s : State} (h : Ready (ldm k c caret w rn list) named s) : rn ≠ 15 := by
  obtain ⟨hwf, -, -⟩ := h
  simp only [wf_ldm, ldmOk, Bool.and_eq_true, decide_eq_true_eq] at hwf
  obtain ⟨⟨⟨hrn, -⟩, -⟩, -⟩ := hwf
  exact hrn

/-- An LDM without `^` whose words can all be read comes to its end with each listed register's word. -/
theorem loadMultiple_of_blockReads {s : State} {k : BlockMode} {rn : RegNum} {list : BitVec 16} {vals : List Word}
    (w : Bool) (h : blockReads s k rn list vals) :
    s.loadMultiple k false w rn list =
      s.finishLoads false rn (if w then some (blockFinal k (s.readReg rn) list) else none) ((listed list).zip vals) := by
  obtain ⟨hlen, hread⟩ := h
  simp [State.loadMultiple, start_eq_blockStart, final_eq_blockFinal, regList_eq_listed, readMany_of_reads hlen hread]

/-- Settles O31: the reads give the listed registers their words, the end of the transfer writes them and the base, and the PC
goes on or, with R15 in the list, to the last word. -/
theorem loadMultiple : Obligations.LoadMultiple := by
  unfold Obligations.LoadMultiple
  intro k c w rn list s vals hready hreads
  have hrn : rn ≠ 15 := base_ne_15_of_ready hready
  have ⟨hlen, _⟩ := hreads
  have hexec := (exec_ldm_of_ready (caret := false) hready).trans (loadMultiple_of_blockReads w hreads)
  refine ⟨fun h15 hpc => ?_, fun v h15 hv => ?_⟩
  · rw [hexec, finishLoads_of_pcWord_none s hrn w _ (pcWord_of_not_listed vals h15)]
    exact State.advance_of_ne hpc
  · rw [hexec, finishLoads_of_pcWord_some s hrn w _ (pcWord_of_listed hlen h15 hv), State.branchTo, and_pcMask_eq]
    rfl

end Sys2Proof.Proofs
end

section
/-! PROOFS. The groups of instructions of one shape, and the frame in which each of them runs. -/

namespace Sys2Proof.Proofs

open Sys2Proof.Machine Sys2Proof.Claims

/-! ### Every instruction is in a group -/

/-- SWP and SWPB by their width bit. -/
abbrev swapInstr (byte : Bool) (c : Cond) (rn rd rm : RegNum) : Instr :=
  if byte then .swpb c rn rd rm else .swp c rn rd rm

/-- B and BL by their link bit. -/
abbrev branchInstr (link : Bool) (c : Cond) (imm24 : BitVec 24) : Instr :=
  if link then .bl c imm24 else .b c imm24

/-- An instruction by its group: the case analysis of every statement about all instructions. -/
theorem instr_cases (P : Instr → Prop)
    (dp : ∀ op o c flags rn rd, P (DpOp.instr op o c flags rn rd))
    (cmp : ∀ op o c rn sbz, P (CmpOp.instr op o c rn sbz))
    (mul : ∀ c flags rd sbz rs rm, P (.mul c flags rd sbz rs rm))
    (mla : ∀ c flags rd rn rs rm, P (.mla c flags rd rn rs rm))
    (long : ∀ op c flags rdHi rdLo rs rm, P (LongOp.instr op c flags rdHi rdLo rs rm))
    (single : ∀ x c u rn rd, P (Single.instr x c u rn rd))
    (ldm : ∀ k c caret w rn list, P (ldm k c caret w rn list))
    (stm : ∀ k c caret w rn list, P (stm k c caret w rn list))
    (swap : ∀ byte c rn rd rm, P (swapInstr byte c rn rd rm))
    (branch : ∀ link c imm24, P (branchInstr link c imm24))
    (bx : ∀ c rm, P (.bx c rm))
    (mrs : ∀ c spsr rd, P (.mrs c spsr rd))
    (msr : ∀ x c spsr mask, P (MsrSource.instr x c spsr mask))
    (swi : ∀ c number, P (.swi c number))
    (undefined : ∀ c hi lo, P (.undefined c hi lo))
    (coprocessor : ∀ i cp, coprocessorOf i = some cp → P i)
    (i : Instr) : P i := by
  cases i with
  | andImm c s rn rd rot i => exact dp .and (.imm rot i) c s rn rd
  | andShi c s rn rd n k rm => exact dp .and (.shi n k rm) c s rn rd
  | andShr c s rn rd rs k rm => exact dp .and (.shr rs k rm) c s rn rd
  | eorImm c s rn rd rot i => exact dp .eor (.imm rot i) c s rn rd
  | eorShi c s rn rd n k rm => exact dp .eor (.shi n k rm) c s rn rd
  | eorShr c s rn rd rs k rm => exact dp .eor (.shr rs k rm) c s rn rd
  | subImm c s rn rd rot i => exact dp .sub (.imm rot i) c s rn rd
  | subShi c s rn rd n k rm => exact dp .sub (.shi n k rm) c s rn rd
  | subShr c s rn rd rs k rm => exact dp .sub (.shr rs k rm) c s rn rd
  | rsbImm c s rn rd rot i => exact dp .rsb (.imm rot i) c s rn rd
  | rsbShi c s rn rd n k rm => exact dp .rsb (.shi n k rm) c s rn rd
  | rsbShr c s rn rd rs k rm => exact dp .rsb (.shr rs k rm) c s rn rd
  | addImm c s rn rd rot i => exact dp .add (.imm rot i) c s rn rd
  | addShi c s rn rd n k rm => exact dp .add (.shi n k rm) c s rn rd
  | addShr c s rn rd rs k rm => exact dp .add (.shr rs k rm) c s rn rd
  | adcImm c s rn rd rot i => exact dp .adc (.imm rot i) c s rn rd
  | adcShi c s rn rd n k rm => exact dp .adc (.shi n k rm) c s rn rd
  | adcShr c s rn rd rs k rm => exact dp .adc (.shr rs k rm) c s rn rd
  | sbcImm c s rn rd rot i => exact dp .sbc (.imm rot i) c s rn rd
  | sbcShi c s rn rd n k rm => exact dp .sbc (.shi n k rm) c s rn rd
  | sbcShr c s rn rd rs k rm => exact dp .sbc (.shr rs k rm) c s rn rd
  | rscImm c s rn rd rot i => exact dp .rsc (.imm rot i) c s rn rd
  | rscShi c s rn rd n k rm => exact dp .rsc (.shi n k rm) c s rn rd
  | rscShr c s rn rd rs k rm => exact dp .rsc (.shr rs k rm) c s rn rd
  | orrImm c s rn rd rot i => exact dp .orr (.imm rot i) c s rn rd
  | orrShi c s rn rd n k rm => exact dp .orr (.shi n k rm) c s rn rd
  | orrShr c s rn rd rs k rm => exact dp .orr (.shr rs k rm) c s rn rd
  | movImm c s rn rd rot i => exact dp .mov (.imm rot i) c s rn rd
  | movShi c s rn rd n k rm => exact dp .mov (.shi n k rm) c s rn rd
  | movShr c s rn rd rs k rm => exact dp .mov (.shr rs k rm) c s rn rd
  | bicImm c s rn rd rot i => exact dp .bic (.imm rot i) c s rn rd
  | bicShi c s rn rd n k rm => exact dp .bic (.shi n k rm) c s rn rd
  | bicShr c s rn rd rs k rm => exact dp .bic (.shr rs k rm) c s rn rd
  | mvnImm c s rn rd rot i => exact dp .mvn (.imm rot i) c s rn rd
  | mvnShi c s rn rd n k rm => exact dp .mvn (.shi n k rm) c s rn rd
  | mvnShr c s rn rd rs k rm => exact dp .mvn (.shr rs k rm) c s rn rd
  | tstImm c rn sbz rot i => exact cmp .tst (.imm rot i) c rn sbz
  | tstShi c rn sbz n k rm => exact cmp .tst (.shi n k rm) c rn sbz
  | tstShr c rn sbz rs k rm => exact cmp .tst (.shr rs k rm) c rn sbz
  | teqImm c rn sbz rot i => exact cmp .teq (.imm rot i) c rn sbz
  | teqShi c rn sbz n k rm => exact cmp .teq (.shi n k rm) c rn sbz
  | teqShr c rn sbz rs k rm => exact cmp .teq (.shr rs k rm) c rn sbz
  | cmpImm c rn sbz rot i => exact cmp .cmp (.imm rot i) c rn sbz
  | cmpShi c rn sbz n k rm => exact cmp .cmp (.shi n k rm) c rn sbz
  | cmpShr c rn sbz rs k rm => exact cmp .cmp (.shr rs k rm) c rn sbz
  | cmnImm c rn sbz rot i => exact cmp .cmn (.imm rot i) c rn sbz
  | cmnShi c rn sbz n k rm => exact cmp .cmn (.shi n k rm) c rn sbz
  | cmnShr c rn sbz rs k rm => exact cmp .cmn (.shr rs k rm) c rn sbz
  | mul c s rd sbz rs rm => exact mul c s rd sbz rs rm
  | mla c s rd rn rs rm => exact mla c s rd rn rs rm
  | umull c s rdHi rdLo rs rm => exact long .umull c s rdHi rdLo rs rm
  | umlal c s rdHi rdLo rs rm => exact long .umlal c s rdHi rdLo rs rm
  | smull c s rdHi rdLo rs rm => exact long .smull c s rdHi rdLo rs rm
  | smlal c s rdHi rdLo rs rm => exact long .smlal c s rdHi rdLo rs rm
  | strhImm c p u w rn rd off => exact single (.half .strh p w (.imm off)) c u rn rd
  | strhReg c p u w rn rd rm => exact single (.half .strh p w (.reg rm)) c u rn rd
  | ldrhImm c p u w rn rd off => exact single (.half .ldrh p w (.imm off)) c u rn rd
  | ldrhReg c p u w rn rd rm => exact single (.half .ldrh p w (.reg rm)) c u rn rd
  | ldrsbImm c p u w rn rd off => exact single (.half .ldrsb p w (.imm off)) c u rn rd
  | ldrsbReg c p u w rn rd rm => exact single (.half .ldrsb p w (.reg rm)) c u rn rd
  | ldrshImm c p u w rn rd off => exact single (.half .ldrsh p w (.imm off)) c u rn rd
  | ldrshReg c p u w rn rd rm => exact single (.half .ldrsh p w (.reg rm)) c u rn rd
  | strPreImm c u w rn rd off => exact single (.plain false false (.pre w) (.imm off)) c u rn rd
  | strPostImm c u rn rd off => exact single (.plain false false .post (.imm off)) c u rn rd
  | strtImm c u rn rd off => exact single (.plain false false .user (.imm off)) c u rn rd
  | strPreReg c u w rn rd n k rm => exact single (.plain false false (.pre w) (.reg n k rm)) c u rn rd
  | strPostReg c u rn rd n k rm => exact single (.plain false false .post (.reg n k rm)) c u rn rd
  | strtReg c u rn rd n k rm => exact single (.plain false false .user (.reg n k rm)) c u rn rd
  | ldrPreImm c u w rn rd off => exact single (.plain true false (.pre w) (.imm off)) c u rn rd
  | ldrPostImm c u rn rd off => exact single (.plain true false .post (.imm off)) c u rn rd
  | ldrtImm c u rn rd off => exact single (.plain true false .user (.imm off)) c u rn rd
  | ldrPreReg c u w rn rd n k rm => exact single (.plain true false (.pre w) (.reg n k rm)) c u rn rd
  | ldrPostReg c u rn rd n k rm => exact single (.plain true false .post (.reg n k rm)) c u rn rd
  | ldrtReg c u rn rd n k rm => exact single (.plain true false .user (.reg n k rm)) c u rn rd
  | strbPreImm c u w rn rd off => exact single (.plain false true (.pre w) (.imm off)) c u rn rd
  | strbPostImm c u rn rd off => exact single (.plain false true .post (.imm off)) c u rn rd
  | strbtImm c u rn rd off => exact single (.plain false true .user (.imm off)) c u rn rd
  | strbPreReg c u w rn rd n k rm => exact single (.plain false true (.pre w) (.reg n k rm)) c u rn rd
  | strbPostReg c u rn rd n k rm => exact single (.plain false true .post (.reg n k rm)) c u rn rd
  | strbtReg c u rn rd n k rm => exact single (.plain false true .user (.reg n k rm)) c u rn rd
  | ldrbPreImm c u w rn rd off => exact single (.plain true true (.pre w) (.imm off)) c u rn rd
  | ldrbPostImm c u rn rd off => exact single (.plain true true .post (.imm off)) c u rn rd
  | ldrbtImm c u rn rd off => exact single (.plain true true .user (.imm off)) c u rn rd
  | ldrbPreReg c u w rn rd n k rm => exact single (.plain true true (.pre w) (.reg n k rm)) c u rn rd
  | ldrbPostReg c u rn rd n k rm => exact single (.plain true true .post (.reg n k rm)) c u rn rd
  | ldrbtReg c u rn rd n k rm => exact single (.plain true true .user (.reg n k rm)) c u rn rd
  | ldmia c s w rn list => exact ldm .ia c s w rn list
  | stmia c s w rn list => exact stm .ia c s w rn list
  | ldmib c s w rn list => exact ldm .ib c s w rn list
  | stmib c s w rn list => exact stm .ib c s w rn list
  | ldmda c s w rn list => exact ldm .da c s w rn list
  | stmda c s w rn list => exact stm .da c s w rn list
  | ldmdb c s w rn list => exact ldm .db c s w rn list
  | stmdb c s w rn list => exact stm .db c s w rn list
  | swp c rn rd rm => exact swap false c rn rd rm
  | swpb c rn rd rm => exact swap true c rn rd rm
  | b c off => exact branch false c off
  | bl c off => exact branch true c off
  | bx c rm => exact bx c rm
  | mrs c spsr rd => exact mrs c spsr rd
  | msrReg c spsr mask rm => exact msr (.reg rm) c spsr mask
  | msrImm c spsr mask rot i => exact msr (.imm rot i) c spsr mask
  | swi c n => exact swi c n
  | undefined c hi lo => exact undefined c hi lo
  | ldc => exact coprocessor _ _ rfl
  | stc => exact coprocessor _ _ rfl
  | cdp => exact coprocessor _ _ rfl
  | mcr => exact coprocessor _ _ rfl
  | mrc => exact coprocessor _ _ rfl
/-! ### The frame of an instruction (R132, R16, R365) -/

/-- The instruction runs `body` in the frame of `guarded`, naming `named`; the frame's operand check fails exactly
where the instruction is ill-formed. -/
def Framed (i : Instr) (named : List RegNum) (body : State → Out) : Prop :=
  ∃ bad : Option Fault, (bad = none ↔ i.wf = true) ∧ ∀ s, exec i s = guarded i.cond bad named s (body s)

/-- Ready, an instruction is its body. -/
theorem Framed.exec_of_ready {i : Instr} {named : List RegNum} {body : State → Out} {s : State}
    (h : Framed i named body) (hr : Ready i named s) : exec i s = body s := by
  obtain ⟨bad, hbad, hexec⟩ := h
  obtain ⟨hwf, hcond, hhazard⟩ := hr
  rw [hexec, hbad.2 hwf, guarded_run _ hcond hhazard]

/-- With its condition false it only advances (R132). -/
theorem Framed.exec_of_skip {i : Instr} {named : List RegNum} {body : State → Out} {s : State}
    (h : Framed i named body) (hc : condPassed i.cond s.cpsr = false) : exec i s = s.advance := by
  obtain ⟨bad, -, hexec⟩ := h
  rw [hexec, guarded_skip _ _ _ hc]

/-- Ill-formed, it faults (R16). -/
theorem Framed.exec_of_illFormed {i : Instr} {named : List RegNum} {body : State → Out} {s : State}
    (h : Framed i named body) (hwf : i.wf = false) (hc : condPassed i.cond s.cpsr = true) :
    ∃ f, exec i s = .fault f := by
  obtain ⟨bad, hbad, hexec⟩ := h
  cases bad with
  | none => exact absurd (hbad.1 rfl) (by simp [hwf])
  | some f => exact ⟨f, by rw [hexec, guarded_bad f _ _ hc]⟩

/-- Right after a user-bank transfer it may not name a banked register (R365). -/
theorem Framed.exec_of_hazard {i : Instr} {named : List RegNum} {body : State → Out} {s : State}
    (h : Framed i named body) (hwf : i.wf = true) (hc : condPassed i.cond s.cpsr = true)
    (hz : s.hazard named = true) : exec i s = .fault .bankedAfterUserBank := by
  obtain ⟨bad, hbad, hexec⟩ := h
  simp [hexec, hbad.2 hwf, guarded, hc, hz]

/-- A next state is that of the skipped instruction or of its body. -/
theorem Framed.next {i : Instr} {named : List RegNum} {body : State → Out} {s t : State}
    (h : Framed i named body) (ht : exec i s = .next t) :
    s.advance = .next t ∨ (i.wf = true ∧ body s = .next t) := by
  obtain ⟨bad, hbad, hexec⟩ := h
  obtain ⟨-, hskip⟩ | ⟨-, hnone, -, hbody⟩ := guarded_next ((hexec s).symm.trans ht)
  · exact .inl hskip
  · exact .inr ⟨hbad.1 hnone, hbody⟩

/-! ### The body of each group -/

/-- The operation of the ALU that a data-processing instruction performs. -/
def dpAlu (op : DpOp) (a : Word) (o : Operand) (p : Psr) : Alu :=
  match op with
  | .and => aluAnd a o p
  | .eor => aluEor a o p
  | .sub => aluSub a o p
  | .rsb => aluRsb a o p
  | .add => aluAdd a o p
  | .adc => aluAdc a o p
  | .sbc => aluSbc a o p
  | .rsc => aluRsc a o p
  | .orr => aluOrr a o p
  | .mov => aluMov o p
  | .bic => aluBic a o p
  | .mvn => aluMvn o p

/-- The operand check of a data-processing instruction with this operand: only the register-shift form
has one (R147). -/
def operandCheck (o : Op2) (named : List RegNum) : Option Fault :=
  match o with
  | .shr _ _ _ => shiftRegs named
  | _ => none

/-- An instruction that is well-formed in any case needs no check. -/
theorem none_iff_wf {i : Instr} (h : i.wf = true) : (none : Option Fault) = none ↔ i.wf = true := iff_of_true rfl h

theorem framed_dp (op : DpOp) (o : Op2) (c : Cond) (flags : Bool) (rn rd : RegNum) :
    Framed (op.instr o c flags rn rd) (op.regs o rn rd)
      fun s => s.finishResult flags rd (dpAlu op (s.readReg rn) (o.eval s) s.cpsr) := by
  refine ⟨operandCheck o (op.regs o rn rd), ?_, ?_⟩
  · cases o with
    | imm rotate imm8 => cases op <;> exact none_iff_wf rfl
    | shi amount shift rm => cases op <;> exact none_iff_wf rfl
    | shr rs shift rm => cases op <;> exact faultUnless_eq_none
  · cases o <;> cases op <;> exact fun _ => rfl

theorem framed_cmp (op : CmpOp) (o : Op2) (c : Cond) (rn sbz : RegNum) :
    Framed (op.instr o c rn sbz) (rn :: o.regs)
      fun s => s.finishCompare (dpAlu op.op (s.readReg rn) (o.eval s) s.cpsr) := by
  refine ⟨operandCheck o (rn :: o.regs), ?_, ?_⟩
  · cases o with
    | imm rotate imm8 => cases op <;> exact none_iff_wf rfl
    | shi amount shift rm => cases op <;> exact none_iff_wf rfl
    | shr rs shift rm => cases op <;> exact faultUnless_eq_none
  · cases o <;> cases op <;> exact fun _ => rfl

theorem framed_mul (c : Cond) (flags : Bool) (rd sbz rs rm : RegNum) :
    Framed (.mul c flags rd sbz rs rm) [rd, rm, rs] fun s => s.finishMul flags rd (s.readReg rm * s.readReg rs) :=
  ⟨_, faultUnless_eq_none, fun _ => rfl⟩

theorem framed_mla (c : Cond) (flags : Bool) (rd rn rs rm : RegNum) :
    Framed (.mla c flags rd rn rs rm) [rd, rm, rs, rn]
      fun s => s.finishMul flags rd (s.readReg rm * s.readReg rs + s.readReg rn) :=
  ⟨_, faultUnless_eq_none, fun _ => rfl⟩

/-- The 64-bit result of a long multiply (R195 to R198). -/
def longResult (op : LongOp) (m r : Word) (acc : BitVec 64) : BitVec 64 :=
  match op with
  | .umull => umul m r
  | .umlal => umul m r + acc
  | .smull => smul m r
  | .smlal => smul m r + acc

theorem framed_long (op : LongOp) (c : Cond) (flags : Bool) (rdHi rdLo rs rm : RegNum) :
    Framed (op.instr c flags rdHi rdLo rs rm) [rdHi, rdLo, rs, rm]
      fun s => s.finishMulLong flags rdHi rdLo
        (longResult op (s.readReg rm) (s.readReg rs) (s.accumulator rdHi rdLo)) := by
  cases op <;> exact ⟨_, faultUnless_eq_none, fun _ => rfl⟩

/-- The address and the write-back value of a single transfer (R202), as the claims give them. -/
def singleAddressing (x : Single) (u : Bool) (rn : RegNum) (s : State) : Addressing :=
  { address := x.address u rn s, writeBack := if x.writesBack then some (x.moved u rn s) else none }

/-- How the datum of a single load fills the register. -/
def singleExtend : Single → Extend
  | .half .ldrsb _ _ _ => .signByte
  | .half .ldrsh _ _ _ => .signHalf
  | _ => .zero

theorem singleExtend_apply (x : Single) (v : Word) : (singleExtend x).apply v = x.extend v := by
  unfold singleExtend Single.extend
  split <;> simp [Extend.apply, ← BitVec.setWidth_eq_extractLsb']

/-- A single transfer, a load or a store. -/
def singleBody (x : Single) (u : Bool) (rn rd : RegNum) (s : State) : Out :=
  if x.isLoad then s.load (x.privilege s) x.size (singleExtend x) rn rd (singleAddressing x u rn s)
  else s.storeReg (x.privilege s) x.size rn rd (singleAddressing x u rn s)

/-- The check of the base and the offset register of a single transfer (R205). -/
def offsetCheck (x : Single) (rn rd : RegNum) : Option Fault :=
  match x.offsetRegs with
  | [] => immForm x.writesBack rn rd
  | rm :: _ => regForm x.writesBack rn rd rm

/-- The operand check of a single transfer (R205, R206, R214, R217): R15 as Rd is left to LDR alone, without T. -/
def singleCheck (x : Single) (rn rd : RegNum) : Option Fault :=
  match x with
  | .plain true false (.pre _) _ => offsetCheck x rn rd
  | .plain true false .post _ => offsetCheck x rn rd
  | .plain _ _ _ _ => notR15 rd (offsetCheck x rn rd)
  | .half _ p w _ => halfForm p w (notR15 rd (offsetCheck x rn rd))

theorem notR15_eq_none {rd : RegNum} {rest : Option Fault} :
    notR15 rd rest = none ↔ dataRegOk rd = true ∧ rest = none := by
  cases h : dataRegOk rd <;> simp [notR15, h]

theorem halfForm_eq_none {p w : Bool} {rest : Option Fault} :
    halfForm p w rest = none ↔ halfModeOk p w = true ∧ rest = none := by
  cases h : halfModeOk p w <;> simp [halfForm, h]

theorem offsetCheck_eq_none {x : Single} {rn rd : RegNum} :
    offsetCheck x rn rd = none ↔
      baseOk x.writesBack rn rd = true ∧ ∀ rm ∈ x.offsetRegs, offsetRegOk x.writesBack rn rm = true := by
  cases x with
  | plain load byte mode o => cases o <;> simp [offsetCheck, Single.offsetRegs, immForm, regForm, faultUnless_eq_none]
  | half op p w o => cases o <;> simp [offsetCheck, Single.offsetRegs, immForm, regForm, faultUnless_eq_none]

theorem singleCheck_eq_none (x : Single) (c : Cond) (u : Bool) (rn rd : RegNum) :
    singleCheck x rn rd = none ↔ (x.instr c u rn rd).wf = true := by
  cases x with
  | plain load byte mode o =>
    cases o <;> cases mode <;> cases byte <;> cases load <;>
      simp [singleCheck, notR15_eq_none, offsetCheck_eq_none, Single.offsetRegs, Single.writesBack, Single.instr,
        Instr.wf, and_assoc]
  | half op p w o =>
    cases o <;> cases op <;>
      simp [singleCheck, notR15_eq_none, halfForm_eq_none, offsetCheck_eq_none, Single.offsetRegs, Single.writesBack,
        Single.instr, Instr.wf, and_assoc]

theorem framed_single (x : Single) (c : Cond) (u : Bool) (rn rd : RegNum) :
    Framed (x.instr c u rn rd) (rn :: rd :: x.offsetRegs) (singleBody x u rn rd) := by
  refine ⟨singleCheck x rn rd, singleCheck_eq_none x c u rn rd, fun s => ?_⟩
  cases x with
  | plain load byte mode o => cases o <;> cases mode <;> cases byte <;> cases load <;> rfl
  | half op p w o => cases o <;> cases op <;> cases p <;> rfl

theorem framed_swap (byte : Bool) (c : Cond) (rn rd rm : RegNum) :
    Framed (swapInstr byte c rn rd rm) [rn, rd, rm] fun s => s.swap (if byte then .byte else .word) rn rd rm := by
  cases byte <;> exact ⟨_, faultUnless_eq_none, fun _ => rfl⟩

theorem ldmForm_eq_none {caret w : Bool} {rn : RegNum} {list : BitVec 16} :
    ldmForm caret w rn list = none ↔ (ldmOk w rn list && userFormOk caret w list) = true := by
  cases h : ldmOk w rn list <;> simp [ldmForm, h, faultUnless_eq_none]

theorem stmForm_eq_none {caret w : Bool} {rn : RegNum} {list : BitVec 16} :
    stmForm caret w rn list = none ↔ (stmOk w rn list && userFormOk caret w list) = true := by
  cases h : stmOk w rn list <;> simp [stmForm, h, faultUnless_eq_none]

theorem blockRegs_eq_blockNamed (caret : Bool) (rn : RegNum) (list : BitVec 16) :
    blockRegs caret rn list = blockNamed caret rn list := by
  rw [blockRegs, blockNamed, regList_eq_listed]

theorem framed_ldm (k : BlockMode) (c : Cond) (caret w : Bool) (rn : RegNum) (list : BitVec 16) :
    Framed (ldm k c caret w rn list) (blockNamed caret rn list) fun s => s.loadMultiple k caret w rn list := by
  rw [← blockRegs_eq_blockNamed]
  cases k <;> exact ⟨_, ldmForm_eq_none, fun _ => rfl⟩

theorem framed_stm (k : BlockMode) (c : Cond) (caret w : Bool) (rn : RegNum) (list : BitVec 16) :
    Framed (stm k c caret w rn list) (blockNamed caret rn list) fun s => s.storeMultiple k caret w rn list := by
  rw [← blockRegs_eq_blockNamed]
  cases k <;> exact ⟨_, stmForm_eq_none, fun _ => rfl⟩

/-- The register that a branch writes. -/
abbrev branchRegs (link : Bool) : List RegNum := if link then [14] else []

/-- B, and BL with its link (R261, R262). -/
def branchBody (link : Bool) (imm24 : BitVec 24) (s : State) : Out :=
  (if link then s.writeReg 14 (s.pc + 4) else s).branchTo (branchTarget s.pc imm24)

theorem framed_branch (link : Bool) (c : Cond) (imm24 : BitVec 24) :
    Framed (branchInstr link c imm24) (branchRegs link) (branchBody link imm24) := by
  cases link <;> exact ⟨none, none_iff_wf rfl, fun _ => rfl⟩

/-- BX (R264). -/
def bxBody (rm : RegNum) (s : State) : Out :=
  if (s.readReg rm).getLsbD 0 then .refused .thumbState
  else if (s.readReg rm).getLsbD 1 then .fault .branchExchange
  else ({ s with cpsr := { s.cpsr with t := false } } : State).branchTo (s.readReg rm)

theorem framed_bx (c : Cond) (rm : RegNum) : Framed (.bx c rm) [rm] (bxBody rm) :=
  ⟨_, faultUnless_eq_none, fun _ => rfl⟩

/-- MRS of a status register that may be absent (R271, R46). -/
def mrsBody (spsr : Bool) (rd : RegNum) (s : State) : Out :=
  match if spsr then s.spsr else some s.cpsr with
  | some p => (s.writeReg rd p.toWord).advance
  | none => .fault .noSpsr

theorem framed_mrs (c : Cond) (spsr : Bool) (rd : RegNum) : Framed (.mrs c spsr rd) [rd] (mrsBody spsr rd) := by
  cases spsr <;> exact ⟨_, faultUnless_eq_none, fun _ => rfl⟩

theorem framed_msr (x : MsrSource) (c : Cond) (spsr : Bool) (mask : BitVec 4) :
    Framed (x.instr c spsr mask) x.regs fun s => s.writePsr spsr mask (x.value s) := by
  cases x with
  | reg rm => exact ⟨_, faultUnless_eq_none, fun _ => rfl⟩
  | imm rotate imm8 => exact ⟨none, none_iff_wf rfl, fun _ => rfl⟩

theorem framed_swi (c : Cond) (number : BitVec 24) :
    Framed (.swi c number) [] fun s => .next (s.takeException .swi) := ⟨none, none_iff_wf rfl, fun _ => rfl⟩

theorem framed_undefined (c : Cond) (hi : BitVec 20) (lo : BitVec 4) :
    Framed (.undefined c hi lo) [] fun s => .next (s.takeException .undefined) :=
  ⟨none, none_iff_wf rfl, fun _ => rfl⟩

theorem framed_coprocessor {i : Instr} {cp : BitVec 4} (h : coprocessorOf i = some cp) :
    Framed i [] fun s => s.coprocessor cp := by
  cases i <;> simp only [coprocessorOf] at h <;> cases h <;> exact ⟨none, none_iff_wf rfl, fun _ => rfl⟩

/-- Every instruction runs in the frame. -/
theorem exists_framed (i : Instr) : ∃ named body, Framed i named body := by
  induction i using instr_cases with
  | dp op o c flags rn rd => exact ⟨_, _, framed_dp op o c flags rn rd⟩
  | cmp op o c rn sbz => exact ⟨_, _, framed_cmp op o c rn sbz⟩
  | mul c flags rd sbz rs rm => exact ⟨_, _, framed_mul c flags rd sbz rs rm⟩
  | mla c flags rd rn rs rm => exact ⟨_, _, framed_mla c flags rd rn rs rm⟩
  | long op c flags rdHi rdLo rs rm => exact ⟨_, _, framed_long op c flags rdHi rdLo rs rm⟩
  | single x c u rn rd => exact ⟨_, _, framed_single x c u rn rd⟩
  | ldm k c caret w rn list => exact ⟨_, _, framed_ldm k c caret w rn list⟩
  | stm k c caret w rn list => exact ⟨_, _, framed_stm k c caret w rn list⟩
  | swap byte c rn rd rm => exact ⟨_, _, framed_swap byte c rn rd rm⟩
  | branch link c imm24 => exact ⟨_, _, framed_branch link c imm24⟩
  | bx c rm => exact ⟨_, _, framed_bx c rm⟩
  | mrs c spsr rd => exact ⟨_, _, framed_mrs c spsr rd⟩
  | msr x c spsr mask => exact ⟨_, _, framed_msr x c spsr mask⟩
  | swi c number => exact ⟨_, _, framed_swi c number⟩
  | undefined c hi lo => exact ⟨_, _, framed_undefined c hi lo⟩
  | coprocessor i cp h => exact ⟨_, _, framed_coprocessor h⟩

/-- Settles O13: skipped, every instruction only advances. -/
theorem skipWhenConditionFails : Obligations.SkipWhenConditionFails := by
  unfold Obligations.SkipWhenConditionFails
  intro i s hc
  obtain ⟨named, body, h⟩ := exists_framed i
  exact h.exec_of_skip hc

/-- Settles O14: the operand check of the frame fails. -/
theorem illFormedFaults : Obligations.IllFormedFaults := by
  unfold Obligations.IllFormedFaults
  intro i s hwf hc
  obtain ⟨named, body, h⟩ := exists_framed i
  exact h.exec_of_illFormed hwf hc

/-- The registers that the claims name for an instruction are those that its frame names. -/
theorem framed_of_names {i : Instr} {named : List RegNum} (h : Names i named) : ∃ body, Framed i named body := by
  obtain ⟨op, o, c, flags, rn, rd, rfl, rfl⟩ | ⟨op, o, c, rn, sbz, rfl, rfl⟩ | ⟨c, flags, rd, sbz, rs, rm, rfl, rfl⟩ |
    ⟨c, flags, rd, rn, rs, rm, rfl, rfl⟩ | ⟨op, c, flags, rdHi, rdLo, rs, rm, rfl, rfl⟩ | ⟨x, c, u, rn, rd, rfl, rfl⟩ |
    ⟨k, c, caret, w, rn, list, rfl | rfl, rfl⟩ | ⟨c, rn, rd, rm, rfl | rfl, rfl⟩ | ⟨c, rm, rfl, rfl⟩ |
    ⟨c, imm24, rfl, rfl⟩ | ⟨c, spsr, rd, rfl, rfl⟩ | ⟨x, c, spsr, mask, rfl, rfl⟩ := h
  · exact ⟨_, framed_dp op o c flags rn rd⟩
  · exact ⟨_, framed_cmp op o c rn sbz⟩
  · exact ⟨_, framed_mul c flags rd sbz rs rm⟩
  · exact ⟨_, framed_mla c flags rd rn rs rm⟩
  · exact ⟨_, framed_long op c flags rdHi rdLo rs rm⟩
  · exact ⟨_, framed_single x c u rn rd⟩
  · exact ⟨_, framed_ldm k c caret w rn list⟩
  · exact ⟨_, framed_stm k c caret w rn list⟩
  · exact ⟨_, framed_swap false c rn rd rm⟩
  · exact ⟨_, framed_swap true c rn rd rm⟩
  · exact ⟨_, framed_bx c rm⟩
  · exact ⟨_, framed_branch true c imm24⟩
  · exact ⟨_, framed_mrs c spsr rd⟩
  · exact ⟨_, framed_msr x c spsr mask⟩

/-- Settles O50: a named register of another bank is the hazard of the frame. -/
theorem userBankHazardFaults : Obligations.UserBankHazardFaults := by
  unfold Obligations.UserBankHazardFaults
  intro s i named hnames hwf hc hafter hbanked
  obtain ⟨body, h⟩ := framed_of_names hnames
  refine h.exec_of_hazard hwf hc ?_
  simpa [State.hazard, hafter, banked, Mode.bits] using hbanked

end Sys2Proof.Proofs
end

section
/-! PROOFS. The decoder and the encoder undo each other (`30_encoding.md` sections 2 and 5). -/

namespace Sys2Proof.Proofs

open Sys2Proof.Machine Sys2Proof.Claims

/-! ### A word is the sum of its fields -/

/-- The `n` bits of a word from `lo` upwards, at their own place, and zeros elsewhere. -/
def slice (lo n : Nat) (w : Word) : Word := put lo (field lo n w)

theorem put_field (lo n : Nat) (w : Word) : put lo (field lo n w) = slice lo n w := rfl

theorem bit_slice (lo n i : Nat) (w : Word) :
    bit (slice lo n w) i = (decide (lo ≤ i) && decide (i < lo + n) && bit w i) := by
  rw [slice, bit_put, getLsbD_field]
  by_cases h32 : i < 32
  · by_cases hlo : lo ≤ i
    · have hn : i - lo < n ↔ i < lo + n := by omega
      have hi : lo + (i - lo) = i := by omega
      simp [h32, hlo, hn, hi]
    · simp [hlo]
  · have hout : bit w i = false := BitVec.getLsbD_of_ge w i (by omega)
    simp [h32, hout]

theorem word_ext {a b : Word} (h : ∀ i < 32, bit a i = bit b i) : a = b := BitVec.eq_of_getLsbD_eq h

/-- Two slices that touch are one. -/
theorem slice_or_slice {hi lo m : Nat} (n : Nat) (w : Word) (h : hi = lo + m) :
    slice hi n w ||| slice lo m w = slice lo (m + n) w := by
  subst h
  refine word_ext fun i _ => ?_
  simp only [bit_or, bit_slice]
  cases bit w i
  · simp
  · simp only [Bool.and_true, ← Bool.decide_and, ← Bool.decide_or, decide_eq_decide]
    omega

theorem slice_whole (w : Word) : slice 0 32 w = w := by
  refine word_ext fun i hi => ?_
  simp [bit_slice, hi]

theorem field_one (i : Nat) (w : Word) : field i 1 w = BitVec.ofBool (bit w i) := by
  refine BitVec.eq_of_getLsbD_eq fun j hj => ?_
  obtain rfl : j = 0 := by omega
  simp [field, bit]

theorem putBit_bit (i : Nat) (w : Word) : putBit i (bit w i) = slice i 1 w := by
  rw [putBit, slice, field_one]

theorem slice_of_field {lo n : Nat} {w : Word} {x : BitVec n} (h : field lo n w = x) : slice lo n w = put lo x := by
  rw [slice, h]

theorem slice_of_bit {i : Nat} {w : Word} {b : Bool} (h : bit w i = b) : slice i 1 w = putBit i b := by
  rw [← putBit_bit, h]

theorem putCond_of_condField {w : Word} {c : Cond} (h : field 28 4 w = c.bits) : putCond c = slice 28 4 w := by
  rw [putCond, ← h, put_field]

theorem shiftBits_of_ofBits (x : BitVec 2) : (ShiftKind.ofBits x).bits = x := by
  revert x; decide

/-! ### The operation codes of data processing (R106) -/

/-- Bits [24:21] of an operation that writes a result. -/
def dpCode : DpOp → BitVec 4
  | .and => 0 | .eor => 1 | .sub => 2 | .rsb => 3 | .add => 4 | .adc => 5 | .sbc => 6 | .rsc => 7
  | .orr => 12 | .mov => 13 | .bic => 14 | .mvn => 15

/-- Bits [24:21] of a comparison. -/
def cmpCode : CmpOp → BitVec 4
  | .tst => 8 | .teq => 9 | .cmp => 10 | .cmn => 11

/-- Every code is that of one operation. -/
theorem code_cases (x : BitVec 4) : (∃ op, x = dpCode op) ∨ ∃ op, x = cmpCode op := by
  have h : ∀ x : BitVec 4,
      x ∈ [DpOp.and, .eor, .sub, .rsb, .add, .adc, .sbc, .rsc, .orr, .mov, .bic, .mvn].map dpCode ∨
        x ∈ [CmpOp.tst, .teq, .cmp, .cmn].map cmpCode := by decide
  refine (h x).imp ?_ ?_ <;> intro hx <;> obtain ⟨op, -, rfl⟩ := List.mem_map.1 hx <;> exact ⟨op, rfl⟩

/-- The comparisons have the codes 10xx. -/
theorem dpCode_hi (op : DpOp) : (dpCode op).extractLsb' 2 2 ≠ 2 := by cases op <;> decide

theorem cmpCode_hi (op : CmpOp) : (cmpCode op).extractLsb' 2 2 = 2 := by cases op <;> rfl

/-- A part of a field is a field. -/
theorem extractLsb'_field {lo m k n : Nat} (h : k + n ≤ m) (w : Word) :
    (field lo m w).extractLsb' k n = field (lo + k) n w := by
  refine BitVec.eq_of_getLsbD_eq fun i hi => ?_
  have hlt : k + i < m := by omega
  rw [BitVec.getLsbD_extractLsb', getLsbD_field, getLsbD_field, Nat.add_assoc]
  simp [hi, hlt]

theorem field_23_2 (w : Word) : field 23 2 w = (field 21 4 w).extractLsb' 2 2 :=
  (extractLsb'_field (lo := 21) (m := 4) (k := 2) (by decide) w).symm

theorem decodeDpImm_dp {w : Word} {op : DpOp} (c : Cond) (h : field 21 4 w = dpCode op) :
    decodeDpImm c w = op.instr (.imm (field 8 4 w) (field 0 8 w)) c (bit w 20) (field 16 4 w) (field 12 4 w) := by
  cases op <;> simp [decodeDpImm, h, dpCode, DpOp.instr]

theorem decodeDpImm_cmp {w : Word} {op : CmpOp} (c : Cond) (h : field 21 4 w = cmpCode op) :
    decodeDpImm c w = op.instr (.imm (field 8 4 w) (field 0 8 w)) c (field 16 4 w) (field 12 4 w) := by
  cases op <;> simp [decodeDpImm, h, cmpCode, CmpOp.instr]

theorem decodeDpShi_dp {w : Word} {op : DpOp} (c : Cond) (h : field 21 4 w = dpCode op) :
    decodeDpShi c w = op.instr (.shi (field 7 5 w) (ShiftKind.ofBits (field 5 2 w)) (field 0 4 w)) c (bit w 20)
      (field 16 4 w) (field 12 4 w) := by
  cases op <;> simp [decodeDpShi, h, dpCode, DpOp.instr]

theorem decodeDpShi_cmp {w : Word} {op : CmpOp} (c : Cond) (h : field 21 4 w = cmpCode op) :
    decodeDpShi c w = op.instr (.shi (field 7 5 w) (ShiftKind.ofBits (field 5 2 w)) (field 0 4 w)) c
      (field 16 4 w) (field 12 4 w) := by
  cases op <;> simp [decodeDpShi, h, cmpCode, CmpOp.instr]

theorem decodeDpShr_dp {w : Word} {op : DpOp} (c : Cond) (h : field 21 4 w = dpCode op) :
    decodeDpShr c w = op.instr (.shr (field 8 4 w) (ShiftKind.ofBits (field 5 2 w)) (field 0 4 w)) c (bit w 20)
      (field 16 4 w) (field 12 4 w) := by
  cases op <;> simp [decodeDpShr, h, dpCode, DpOp.instr]

theorem decodeDpShr_cmp {w : Word} {op : CmpOp} (c : Cond) (h : field 21 4 w = cmpCode op) :
    decodeDpShr c w = op.instr (.shr (field 8 4 w) (ShiftKind.ofBits (field 5 2 w)) (field 0 4 w)) c
      (field 16 4 w) (field 12 4 w) := by
  cases op <;> simp [decodeDpShr, h, cmpCode, CmpOp.instr]

/-- The word of a data-processing instruction with this operand. -/
def encodeDp (o : Op2) (code : BitVec 4) (c : Cond) (s : Bool) (rn rd : RegNum) : Word :=
  match o with
  | .imm rotate imm8 => encodeDpImm code c s rn rd rotate imm8
  | .shi amount shift rm => encodeDpShi code c s rn rd amount shift rm
  | .shr rs shift rm => encodeDpShr code c s rn rd rs shift rm

theorem encode_dp (op : DpOp) (o : Op2) (c : Cond) (s : Bool) (rn rd : RegNum) :
    encode (op.instr o c s rn rd) = encodeDp o (dpCode op) c s rn rd := by
  cases o <;> cases op <;> rfl

theorem encode_cmp (op : CmpOp) (o : Op2) (c : Cond) (rn sbz : RegNum) :
    encode (op.instr o c rn sbz) = encodeDp o (cmpCode op) c true rn sbz := by
  cases o <;> cases op <;> rfl

theorem encode_branch (link : Bool) (c : Cond) (imm24 : BitVec 24) :
    encode (branchInstr link c imm24) = putCond c ||| put 24 (if link then 11#4 else 10#4) ||| put 0 imm24 := by
  cases link <;> rfl

/-- The halves of an immediate offset are the two fields that hold it (R96). -/
theorem halves_hi (a b : BitVec 4) : (a ++ b).extractLsb' 4 4 = a := by
  rw [BitVec.extractLsb'_append_eq_left]

theorem halves_lo (a b : BitVec 4) : (a ++ b).extractLsb' 0 4 = b := by
  rw [BitVec.extractLsb'_append_eq_right]

/-! ### A word is put together again from the fields of its format -/

section formats

variable {w : Word} {c : Cond} (hc : field 28 4 w = c.bits)
include hc

theorem encodeDpImm_fields (h25 : field 25 3 w = 1) :
    encodeDpImm (field 21 4 w) c (bit w 20) (field 16 4 w) (field 12 4 w) (field 8 4 w) (field 0 8 w) = w := by
  have hw : slice 28 4 w ||| slice 25 3 w ||| slice 21 4 w ||| slice 20 1 w ||| slice 16 4 w ||| slice 12 4 w |||
      slice 8 4 w ||| slice 0 8 w = w := by
    simp [slice_or_slice, slice_whole]
  refine Eq.trans ?_ hw
  simp only [encodeDpImm, putCond_of_condField hc, slice_of_field h25, put_field, putBit_bit]
  simp [put]

theorem encodeDpShi_fields (h25 : field 25 3 w = 0) (h4 : bit w 4 = false) :
    encodeDpShi (field 21 4 w) c (bit w 20) (field 16 4 w) (field 12 4 w) (field 7 5 w) (ShiftKind.ofBits (field 5 2 w))
      (field 0 4 w) = w := by
  have hw : slice 28 4 w ||| slice 25 3 w ||| slice 21 4 w ||| slice 20 1 w ||| slice 16 4 w ||| slice 12 4 w |||
      slice 7 5 w ||| slice 5 2 w ||| slice 4 1 w ||| slice 0 4 w = w := by
    simp [slice_or_slice, slice_whole]
  refine Eq.trans ?_ hw
  simp only [encodeDpShi, putCond_of_condField hc, slice_of_field h25, slice_of_bit h4, shiftBits_of_ofBits,
    put_field, putBit_bit]
  simp [put, putBit]

theorem encodeDpShr_fields (h25 : field 25 3 w = 0) (h7 : bit w 7 = false) (h4 : bit w 4 = true) :
    encodeDpShr (field 21 4 w) c (bit w 20) (field 16 4 w) (field 12 4 w) (field 8 4 w) (ShiftKind.ofBits (field 5 2 w))
      (field 0 4 w) = w := by
  have hw : slice 28 4 w ||| slice 25 3 w ||| slice 21 4 w ||| slice 20 1 w ||| slice 16 4 w ||| slice 12 4 w |||
      slice 8 4 w ||| slice 7 1 w ||| slice 5 2 w ||| slice 4 1 w ||| slice 0 4 w = w := by
    simp [slice_or_slice, slice_whole]
  refine Eq.trans ?_ hw
  simp only [encodeDpShr, putCond_of_condField hc, slice_of_field h25, slice_of_bit h7, slice_of_bit h4,
    shiftBits_of_ofBits, put_field, putBit_bit]
  simp [put, putBit]

theorem encodeMul_fields {kind : BitVec 3} (h25 : field 25 3 w = 0) (h21 : slice 21 4 w = put 21 kind)
    (h4 : slice 4 4 w = put 4 9#4) :
    encodeMul kind c (bit w 20) (field 16 4 w) (field 12 4 w) (field 8 4 w) (field 0 4 w) = w := by
  have hw : slice 28 4 w ||| slice 25 3 w ||| slice 21 4 w ||| slice 20 1 w ||| slice 16 4 w ||| slice 12 4 w |||
      slice 8 4 w ||| slice 4 4 w ||| slice 0 4 w = w := by
    simp [slice_or_slice, slice_whole]
  refine Eq.trans ?_ hw
  simp only [encodeMul, putCond_of_condField hc, slice_of_field h25, ← h21, h4, put_field, putBit_bit]
  simp [put]

theorem encodeSwap_fields (h25 : field 25 3 w = 0) (h23 : field 23 2 w = 2) (h20 : field 20 2 w = 0)
    (h8 : field 8 4 w = 0) (h4 : slice 4 4 w = put 4 9#4) :
    encodeSwap (bit w 22) c (field 16 4 w) (field 12 4 w) (field 0 4 w) = w := by
  have hw : slice 28 4 w ||| slice 25 3 w ||| slice 23 2 w ||| slice 22 1 w ||| slice 20 2 w ||| slice 16 4 w |||
      slice 12 4 w ||| slice 8 4 w ||| slice 4 4 w ||| slice 0 4 w = w := by
    simp [slice_or_slice, slice_whole]
  refine Eq.trans ?_ hw
  simp only [encodeSwap, putCond_of_condField hc, slice_of_field h25, slice_of_field h23, slice_of_field h20,
    slice_of_field h8, h4, put_field, putBit_bit]
  simp [put]

theorem encodeHalfReg_fields {sh : BitVec 2} (h25 : field 25 3 w = 0) (h22 : bit w 22 = false) (h8 : field 8 4 w = 0)
    (h7 : bit w 7 = true) (h5 : field 5 2 w = sh) (h4 : bit w 4 = true) :
    encodeHalfReg (bit w 20) sh c (bit w 24) (bit w 23) (bit w 21) (field 16 4 w) (field 12 4 w) (field 0 4 w) = w := by
  have hw : slice 28 4 w ||| slice 25 3 w ||| slice 24 1 w ||| slice 23 1 w ||| slice 22 1 w ||| slice 21 1 w |||
      slice 20 1 w ||| slice 16 4 w ||| slice 12 4 w ||| slice 8 4 w ||| slice 7 1 w ||| slice 5 2 w |||
      slice 4 1 w ||| slice 0 4 w = w := by
    simp [slice_or_slice, slice_whole]
  refine Eq.trans ?_ hw
  simp only [encodeHalfReg, putCond_of_condField hc, ← h5, slice_of_field h25, slice_of_bit h22, slice_of_field h8,
    slice_of_bit h7, slice_of_bit h4, put_field, putBit_bit]
  simp [put, putBit]

theorem encodeHalfImm_fields {sh : BitVec 2} (h25 : field 25 3 w = 0) (h22 : bit w 22 = true)
    (h7 : bit w 7 = true) (h5 : field 5 2 w = sh) (h4 : bit w 4 = true) :
    encodeHalfImm (bit w 20) sh c (bit w 24) (bit w 23) (bit w 21) (field 16 4 w) (field 12 4 w)
      (field 8 4 w ++ field 0 4 w) = w := by
  have hw : slice 28 4 w ||| slice 25 3 w ||| slice 24 1 w ||| slice 23 1 w ||| slice 22 1 w ||| slice 21 1 w |||
      slice 20 1 w ||| slice 16 4 w ||| slice 12 4 w ||| slice 8 4 w ||| slice 7 1 w ||| slice 5 2 w |||
      slice 4 1 w ||| slice 0 4 w = w := by
    simp [slice_or_slice, slice_whole]
  refine Eq.trans ?_ hw
  simp only [encodeHalfImm, putCond_of_condField hc, ← h5, halves_hi, halves_lo, slice_of_field h25, slice_of_bit h22,
    slice_of_bit h7, slice_of_bit h4, put_field, putBit_bit]
  simp [put, putBit]

theorem encodeSdtImm_fields (h25 : field 25 3 w = 2) :
    encodeSdtImm (bit w 22) (bit w 20) c (bit w 24) (bit w 23) (bit w 21) (field 16 4 w) (field 12 4 w) (field 0 12 w) =
      w := by
  have hw : slice 28 4 w ||| slice 25 3 w ||| slice 24 1 w ||| slice 23 1 w ||| slice 22 1 w ||| slice 21 1 w |||
      slice 20 1 w ||| slice 16 4 w ||| slice 12 4 w ||| slice 0 12 w = w := by
    simp [slice_or_slice, slice_whole]
  refine Eq.trans ?_ hw
  simp only [encodeSdtImm, putCond_of_condField hc, slice_of_field h25, put_field, putBit_bit]
  simp [put]

theorem encodeSdtReg_fields (h25 : field 25 3 w = 3) (h4 : bit w 4 = false) :
    encodeSdtReg (bit w 22) (bit w 20) c (bit w 24) (bit w 23) (bit w 21) (field 16 4 w) (field 12 4 w) (field 7 5 w)
      (ShiftKind.ofBits (field 5 2 w)) (field 0 4 w) = w := by
  have hw : slice 28 4 w ||| slice 25 3 w ||| slice 24 1 w ||| slice 23 1 w ||| slice 22 1 w ||| slice 21 1 w |||
      slice 20 1 w ||| slice 16 4 w ||| slice 12 4 w ||| slice 7 5 w ||| slice 5 2 w ||| slice 4 1 w |||
      slice 0 4 w = w := by
    simp [slice_or_slice, slice_whole]
  refine Eq.trans ?_ hw
  simp only [encodeSdtReg, putCond_of_condField hc, slice_of_field h25, slice_of_bit h4, shiftBits_of_ofBits,
    put_field, putBit_bit]
  simp [put, putBit]

theorem encodeUndefined_fields (h25 : field 25 3 w = 3) (h4 : bit w 4 = true) :
    encode (.undefined c (field 5 20 w) (field 0 4 w)) = w := by
  have hw : slice 28 4 w ||| slice 25 3 w ||| slice 5 20 w ||| slice 4 1 w ||| slice 0 4 w = w := by
    simp [slice_or_slice, slice_whole]
  refine Eq.trans ?_ hw
  simp only [encode, putCond_of_condField hc, slice_of_field h25, slice_of_bit h4, put_field]
  simp [put, putBit]

theorem encodeBlock_fields (h25 : field 25 3 w = 4) :
    encodeBlock (bit w 24) (bit w 23) (bit w 20) c (bit w 22) (bit w 21) (field 16 4 w) (field 0 16 w) = w := by
  have hw : slice 28 4 w ||| slice 25 3 w ||| slice 24 1 w ||| slice 23 1 w ||| slice 22 1 w ||| slice 21 1 w |||
      slice 20 1 w ||| slice 16 4 w ||| slice 0 16 w = w := by
    simp [slice_or_slice, slice_whole]
  refine Eq.trans ?_ hw
  simp only [encodeBlock, putCond_of_condField hc, slice_of_field h25, put_field, putBit_bit]
  simp [put]

theorem encodeBranch_fields {link : Bool} (h24 : slice 24 4 w = put 24 (if link then 11#4 else 10#4)) :
    encode (branchInstr link c (field 0 24 w)) = w := by
  have hw : slice 28 4 w ||| slice 24 4 w ||| slice 0 24 w = w := by
    simp [slice_or_slice, slice_whole]
  rw [encode_branch, putCond_of_condField hc, ← h24, put_field, hw]

theorem encodeCpTransfer_fields (h25 : field 25 3 w = 6) :
    encodeCpTransfer (bit w 20) c (bit w 24) (bit w 23) (bit w 22) (bit w 21) (field 16 4 w) (field 12 4 w)
      (field 8 4 w)
      (field 0 8 w) = w := by
  have hw : slice 28 4 w ||| slice 25 3 w ||| slice 24 1 w ||| slice 23 1 w ||| slice 22 1 w ||| slice 21 1 w |||
      slice 20 1 w ||| slice 16 4 w ||| slice 12 4 w ||| slice 8 4 w ||| slice 0 8 w = w := by
    simp [slice_or_slice, slice_whole]
  refine Eq.trans ?_ hw
  simp only [encodeCpTransfer, putCond_of_condField hc, slice_of_field h25, put_field, putBit_bit]
  simp [put]

theorem encodeSwi_fields (h24 : slice 24 4 w = put 24 15#4) :
    encode (.swi c (field 0 24 w)) = w := by
  have hw : slice 28 4 w ||| slice 24 4 w ||| slice 0 24 w = w := by
    simp [slice_or_slice, slice_whole]
  refine Eq.trans ?_ hw
  simp only [encode, putCond_of_condField hc, h24, put_field]

theorem encodeCdp_fields (h24 : slice 24 4 w = put 24 14#4) (h4 : bit w 4 = false) :
    encode (.cdp c (field 20 4 w) (field 16 4 w) (field 12 4 w) (field 8 4 w) (field 5 3 w) (field 0 4 w)) = w := by
  have hw : slice 28 4 w ||| slice 24 4 w ||| slice 20 4 w ||| slice 16 4 w ||| slice 12 4 w ||| slice 8 4 w |||
      slice 5 3 w ||| slice 4 1 w ||| slice 0 4 w = w := by
    simp [slice_or_slice, slice_whole]
  refine Eq.trans ?_ hw
  simp only [encode, putCond_of_condField hc, h24, slice_of_bit h4, put_field]
  simp [put, putBit]

theorem encodeCpRegister_fields (h24 : slice 24 4 w = put 24 14#4) (h4 : bit w 4 = true) :
    encodeCpRegister (bit w 20) c (field 21 3 w) (field 16 4 w) (field 12 4 w) (field 8 4 w) (field 5 3 w)
      (field 0 4 w) = w := by
  have hw : slice 28 4 w ||| slice 24 4 w ||| slice 21 3 w ||| slice 20 1 w ||| slice 16 4 w ||| slice 12 4 w |||
      slice 8 4 w ||| slice 5 3 w ||| slice 4 1 w ||| slice 0 4 w = w := by
    simp [slice_or_slice, slice_whole]
  refine Eq.trans ?_ hw
  simp only [encodeCpRegister, putCond_of_condField hc, h24, slice_of_bit h4, put_field, putBit_bit]
  simp [put, putBit]

theorem encodeBx_fields (h4 : field 4 24 w = 0x12FFF1) :
    encode (.bx c (field 0 4 w)) = w := by
  have hw : slice 28 4 w ||| slice 4 24 w ||| slice 0 4 w = w := by
    simp [slice_or_slice, slice_whole]
  refine Eq.trans ?_ hw
  simp only [encode, putCond_of_condField hc, slice_of_field h4, put_field]
  simp [put]

theorem encodeMrs_fields (h23 : slice 23 5 w = put 23 2#5) (h20 : field 20 2 w = 0) (h16 : field 16 4 w = 15)
    (h0 : field 0 12 w = 0) :
    encode (.mrs c (bit w 22) (field 12 4 w)) = w := by
  have hw : slice 28 4 w ||| slice 23 5 w ||| slice 22 1 w ||| slice 20 2 w ||| slice 16 4 w ||| slice 12 4 w |||
      slice 0 12 w = w := by
    simp [slice_or_slice, slice_whole]
  refine Eq.trans ?_ hw
  simp only [encode, putCond_of_condField hc, h23, slice_of_field h20, slice_of_field h16, slice_of_field h0,
    put_field, putBit_bit]
  simp [put]

theorem encodeMsrReg_fields (h23 : slice 23 5 w = put 23 2#5) (h20 : field 20 2 w = 2) (h12 : field 12 4 w = 15)
    (h4 : field 4 8 w = 0) :
    encode (.msrReg c (bit w 22) (field 16 4 w) (field 0 4 w)) = w := by
  have hw : slice 28 4 w ||| slice 23 5 w ||| slice 22 1 w ||| slice 20 2 w ||| slice 16 4 w ||| slice 12 4 w |||
      slice 4 8 w ||| slice 0 4 w = w := by
    simp [slice_or_slice, slice_whole]
  refine Eq.trans ?_ hw
  simp only [encode, putCond_of_condField hc, h23, slice_of_field h20, slice_of_field h12, slice_of_field h4,
    put_field, putBit_bit]
  simp [put]

theorem encodeMsrImm_fields (h23 : slice 23 5 w = put 23 6#5) (h20 : slice 20 2 w = put 20 2#2)
    (h12 : field 12 4 w = 15) :
    encode (.msrImm c (bit w 22) (field 16 4 w) (field 8 4 w) (field 0 8 w)) = w := by
  have hw : slice 28 4 w ||| slice 23 5 w ||| slice 22 1 w ||| slice 20 2 w ||| slice 16 4 w ||| slice 12 4 w |||
      slice 8 4 w ||| slice 0 8 w = w := by
    simp [slice_or_slice, slice_whole]
  refine Eq.trans ?_ hw
  simp only [encode, putCond_of_condField hc, h23, h20, slice_of_field h12, put_field, putBit_bit]
  simp [put]

end formats

/-! ### A word that decodes is the encoding of its instruction, format by format -/

/-- Bits [24:21] from the parts that the decoder reads of them. -/
theorem slice_21_4 {w : Word} {a : BitVec 2} {b d : Bool} (h23 : field 23 2 w = a) (h22 : bit w 22 = b)
    (h21 : bit w 21 = d) : slice 21 4 w = put 23 a ||| putBit 22 b ||| putBit 21 d := by
  rw [← slice_of_field h23, ← slice_of_bit h22, ← slice_of_bit h21]
  simp [slice_or_slice]

theorem slice_21_4_low {w : Word} {a : BitVec 3} {d : Bool} (h22 : field 22 3 w = a) (h21 : bit w 21 = d) :
    slice 21 4 w = put 22 a ||| putBit 21 d := by
  rw [← slice_of_field h22, ← slice_of_bit h21]
  simp [slice_or_slice]

/-- Bits S and H of a halfword transfer by the bits that the decoder reads. -/
theorem field_5_2 (w : Word) : field 5 2 w = BitVec.ofBool (bit w 6) ++ BitVec.ofBool (bit w 5) := by
  refine BitVec.eq_of_getLsbD_eq fun i hi => ?_
  rw [getLsbD_field, BitVec.getLsbD_append]
  obtain rfl | rfl : i = 0 ∨ i = 1 := by omega
  · simp
  · simp

/-- Bits [27:24] from bits [27:25] and bit 24. -/
theorem slice_24_4 {w : Word} {a : BitVec 3} {b : Bool} (h25 : field 25 3 w = a) (h24 : bit w 24 = b) :
    slice 24 4 w = put 25 a ||| putBit 24 b := by
  rw [← slice_of_field h25, ← slice_of_bit h24]
  simp [slice_or_slice]

section decoders

variable {w : Word} {c : Cond} (hc : field 28 4 w = c.bits)
include hc

theorem encode_decodeDpImm (h25 : field 25 3 w = 1) (hmisc : ¬ (field 23 2 w = 2 ∧ bit w 20 = false)) :
    encode (decodeDpImm c w) = w := by
  obtain ⟨op, hop⟩ | ⟨op, hop⟩ := code_cases (field 21 4 w)
  · rw [decodeDpImm_dp c hop, encode_dp, ← hop]
    exact encodeDpImm_fields hc h25
  · have hs : bit w 20 = true := by
      simpa [field_23_2, hop, cmpCode_hi] using hmisc
    rw [decodeDpImm_cmp c hop, encode_cmp, ← hop, ← hs]
    exact encodeDpImm_fields hc h25

theorem encode_decodeDpShi (h25 : field 25 3 w = 0) (h4 : bit w 4 = false)
    (hmisc : ¬ (field 23 2 w = 2 ∧ bit w 20 = false)) : encode (decodeDpShi c w) = w := by
  obtain ⟨op, hop⟩ | ⟨op, hop⟩ := code_cases (field 21 4 w)
  · rw [decodeDpShi_dp c hop, encode_dp, ← hop]
    exact encodeDpShi_fields hc h25 h4
  · have hs : bit w 20 = true := by
      simpa [field_23_2, hop, cmpCode_hi] using hmisc
    rw [decodeDpShi_cmp c hop, encode_cmp, ← hop, ← hs]
    exact encodeDpShi_fields hc h25 h4

theorem encode_decodeDpShr (h25 : field 25 3 w = 0) (h7 : bit w 7 = false) (h4 : bit w 4 = true)
    (hmisc : ¬ (field 23 2 w = 2 ∧ bit w 20 = false)) : encode (decodeDpShr c w) = w := by
  obtain ⟨op, hop⟩ | ⟨op, hop⟩ := code_cases (field 21 4 w)
  · rw [decodeDpShr_dp c hop, encode_dp, ← hop]
    exact encodeDpShr_fields hc h25 h7 h4
  · have hs : bit w 20 = true := by
      simpa [field_23_2, hop, cmpCode_hi] using hmisc
    rw [decodeDpShr_cmp c hop, encode_cmp, ← hop, ← hs]
    exact encodeDpShr_fields hc h25 h7 h4

theorem encode_decodeMulSwap {i : Instr} (h25 : field 25 3 w = 0) (h4 : slice 4 4 w = put 4 9#4)
    (h : decodeMulSwap c w = .ok i) : encode i = w := by
  unfold decodeMulSwap at h
  split at h
  next h22 =>
    split at h
    next h21 =>
      cases h
      exact encodeMul_fields hc h25 ((slice_21_4_low h22 h21).trans (by decide)) h4
    next h21 =>
      cases h
      rw [Bool.not_eq_true] at h21
      exact encodeMul_fields hc h25 ((slice_21_4_low h22 h21).trans (by decide)) h4
  next =>
    split at h
    next h23 =>
      split at h <;> rename_i h22 h21 <;> cases h <;>
        exact encodeMul_fields hc h25 ((slice_21_4 h23 h22 h21).trans (by decide)) h4
    next =>
      have hswap : field 23 2 w = 2 ∧ field 20 2 w = 0 ∧ field 8 4 w = 0 := by
        by_contra hn
        rw [if_neg hn] at h
        cases h
      rw [if_pos hswap] at h
      obtain ⟨h23, h20, h8⟩ := hswap
      have hword := encodeSwap_fields hc h25 h23 h20 h8 h4
      split at h <;> rename_i h22 <;> cases h
      · rwa [h22] at hword
      · rwa [Bool.eq_false_of_not_eq_true h22] at hword

theorem encode_decodeHalf {i : Instr} (h25 : field 25 3 w = 0) (h7 : bit w 7 = true) (h5 : field 5 2 w ≠ 0)
    (h4 : bit w 4 = true) (h : decodeHalf c w = .ok i) : encode i = w := by
  have hreg (h22 : bit w 22 = false) (h8 : field 8 4 w = 0) := encodeHalfReg_fields hc h25 h22 h8 h7 rfl h4
  have himm (h22 : bit w 22 = true) := encodeHalfImm_fields hc h25 h22 h7 rfl h4
  rw [field_5_2] at hreg himm h5
  unfold decodeHalf at h
  split at h
  · cases h
  next hstore =>
    split at h
    · cases h
    next h8 =>
      cases h22 : bit w 22
      · have hword := hreg h22 (by simpa [h22] using h8)
        cases h20 : bit w 20 <;> cases h6 : bit w 6 <;> cases hbit5 : bit w 5 <;>
          simp [h22, h20, h6, hbit5] at h h5 hstore hword <;> subst h <;> exact hword
      · have hword := himm h22
        cases h20 : bit w 20 <;> cases h6 : bit w 6 <;> cases hbit5 : bit w 5 <;>
          simp [h22, h20, h6, hbit5] at h h5 hstore hword <;> subst h <;> exact hword

theorem encode_decodeMisc {i : Instr} (h25 : field 25 3 w = 0) (h23 : field 23 2 w = 2)
    (h : decodeMisc c w = .ok i) : encode i = w := by
  have h23' : slice 23 5 w = put 23 2#5 := by
    have hsplit : slice 23 5 w = slice 25 3 w ||| slice 23 2 w := by simp [slice_or_slice]
    rw [hsplit, slice_of_field h25, slice_of_field h23]
    decide
  unfold decodeMisc at h
  split at h
  next h4 => cases h; exact encodeBx_fields hc h4
  next =>
    split at h
    next hmrs =>
      obtain ⟨h20, h16, h0⟩ := hmrs
      cases h
      exact encodeMrs_fields hc h23' h20 h16 h0
    next =>
      split at h
      next hmsr =>
        obtain ⟨h20, h12, h4⟩ := hmsr
        cases h
        exact encodeMsrReg_fields hc h23' h20 h12 h4
      next => cases h

theorem encode_decode000 {i : Instr} (h25 : field 25 3 w = 0) (h : decode000 c w = .ok i) : encode i = w := by
  unfold decode000 at h
  split at h
  next h74 =>
    obtain ⟨h7, h4⟩ := h74
    split at h
    next h5 =>
      have h4' : slice 4 4 w = put 4 9#4 := by
        have hsplit : slice 4 4 w = slice 7 1 w ||| slice 5 2 w ||| slice 4 1 w := by simp [slice_or_slice]
        rw [hsplit, slice_of_bit h7, slice_of_field h5, slice_of_bit h4]
        decide
      exact encode_decodeMulSwap hc h25 h4' h
    next h5 => exact encode_decodeHalf hc h25 h7 h5 h4 h
  next h74 =>
    split at h
    next hmisc => exact encode_decodeMisc hc h25 hmisc.1 h
    next hmisc =>
      split at h
      next h4 =>
        cases h
        exact encode_decodeDpShr hc h25 (by simpa [h4] using h74) h4 hmisc
      next h4 =>
        cases h
        exact encode_decodeDpShi hc h25 (by simpa using h4) hmisc

theorem encode_decode001 {i : Instr} (h25 : field 25 3 w = 1) (h : decode001 c w = .ok i) : encode i = w := by
  unfold decode001 at h
  split at h
  next hmisc =>
    obtain ⟨h23, h20⟩ := hmisc
    split at h
    next hmsr =>
      obtain ⟨h21, h12⟩ := hmsr
      cases h
      have h23' : slice 23 5 w = put 23 6#5 := by
        have hsplit : slice 23 5 w = slice 25 3 w ||| slice 23 2 w := by simp [slice_or_slice]
        rw [hsplit, slice_of_field h25, slice_of_field h23]
        decide
      have h20' : slice 20 2 w = put 20 2#2 := by
        have hsplit : slice 20 2 w = slice 21 1 w ||| slice 20 1 w := by simp [slice_or_slice]
        rw [hsplit, slice_of_bit h21, slice_of_bit h20]
        decide
      exact encodeMsrImm_fields hc h23' h20' h12
    next => cases h
  next hmisc =>
    cases h
    exact encode_decodeDpImm hc h25 hmisc

theorem encode_decode010 (h25 : field 25 3 w = 2) : encode (decode010 c w) = w := by
  have hword := encodeSdtImm_fields hc h25
  unfold decode010
  split <;> simp_all [encode]

theorem encode_decode011 (h25 : field 25 3 w = 3) : encode (decode011 c w) = w := by
  unfold decode011
  split
  next h4 => exact encodeUndefined_fields hc h25 h4
  next h4 =>
    have hword := encodeSdtReg_fields hc h25 (by simpa using h4)
    split <;> simp_all [encode]

theorem encode_decode100 (h25 : field 25 3 w = 4) : encode (decode100 c w) = w := by
  have hword := encodeBlock_fields hc h25
  unfold decode100
  split <;> simp_all [encode]

theorem encode_decode110 (h25 : field 25 3 w = 6) : encode (decode110 c w) = w := by
  have hword := encodeCpTransfer_fields hc h25
  unfold decode110
  split <;> simp_all [encode]

theorem encode_decode111 (h25 : field 25 3 w = 7) : encode (decode111 c w) = w := by
  unfold decode111
  split
  next h24 => exact encodeSwi_fields hc ((slice_24_4 h25 h24).trans (by decide))
  next h24 =>
    have h24' : slice 24 4 w = put 24 14#4 := (slice_24_4 h25 (Bool.eq_false_of_not_eq_true h24)).trans (by decide)
    split
    next h4 => exact encodeCdp_fields hc h24' h4
    next h4 =>
      have hword := encodeCpRegister_fields hc h24' (by simpa using h4)
      split <;> simp_all [encode]

theorem encode_decodeBranch (h25 : field 25 3 w = 5) : encode (branchInstr (bit w 24) c (field 0 24 w)) = w := by
  refine encodeBranch_fields hc ?_
  rw [slice_24_4 h25 rfl]
  cases bit w 24 <;> decide

theorem encode_decodeBody {i : Instr} (h : decodeBody c w = .ok i) : encode i = w := by
  have h25 {n : Nat} (hn : (field 25 3 w).toNat = n) : field 25 3 w = BitVec.ofNat 3 n := by simp [← hn]
  unfold decodeBody at h
  split at h
  next hn => exact encode_decode000 hc (h25 hn) h
  next hn => exact encode_decode001 hc (h25 hn) h
  next hn => cases h; exact encode_decode010 hc (h25 hn)
  next hn => cases h; exact encode_decode011 hc (h25 hn)
  next hn => cases h; exact encode_decode100 hc (h25 hn)
  next hn =>
    have hword := encode_decodeBranch hc (h25 hn)
    split at h <;> rename_i h24 <;> cases h
    · rwa [h24] at hword
    · rwa [Bool.eq_false_of_not_eq_true h24] at hword
  next hn => cases h; exact encode_decode110 hc (h25 hn)
  next =>
    cases h
    have h7 : (field 25 3 w).toNat = 7 := by
      simp only [imp_false] at *
      omega
    exact encode_decode111 hc (h25 h7)

end decoders

/-- Settles O2: the decoder reads each field of the word once, and the encoder puts it back where it stood. -/
theorem encodeDecode : Obligations.EncodeDecode := by
  unfold Obligations.EncodeDecode
  intro w i h
  unfold decode at h
  split at h
  · cases h
  next c hc => exact encode_decodeBody (condBits_of_ofBits hc) h

/-! ### The fields of an encoded instruction -/

theorem decode_of_condField {w : Word} {c : Cond} (h : field 28 4 w = c.bits) : decode w = decodeBody c w := by
  simp [decode, h]

theorem fields_encodeDpImm (code : BitVec 4) (c : Cond) (s : Bool) (rn rd rotate : BitVec 4) (imm8 : BitVec 8)
    {w : Word}
    (h : w = encodeDpImm code c s rn rd rotate imm8) :
    field 28 4 w = c.bits ∧ field 25 3 w = 1 ∧ field 21 4 w = code ∧ bit w 20 = s ∧ field 16 4 w = rn ∧
    field 12 4 w = rd ∧
      field 8 4 w = rotate ∧ field 0 8 w = imm8 := by
  subst h
  simp [encodeDpImm, putCond, field_put_below, field_put_above, field_put_same, field_putBit_out, bit_put_below,
    bit_put_above, bit_putBit_same]

theorem fields_encodeDpShi (code : BitVec 4) (c : Cond) (s : Bool) (rn rd : BitVec 4) (am : BitVec 5) (sh : ShiftKind)
    (rm : BitVec 4) {w : Word} (h : w = encodeDpShi code c s rn rd am sh rm) :
    field 28 4 w = c.bits ∧ field 25 3 w = 0 ∧ field 21 4 w = code ∧ bit w 20 = s ∧ field 16 4 w = rn ∧
    field 12 4 w = rd ∧
      field 7 5 w = am ∧ field 5 2 w = sh.bits ∧ bit w 4 = false ∧ field 0 4 w = rm := by
  subst h
  simp [encodeDpShi, putCond, field_put_below, field_put_above, field_put_same, field_putBit_out, bit_put_below,
    bit_put_above, bit_putBit_same, bit_putBit_ne]

theorem fields_encodeDpShr (code : BitVec 4) (c : Cond) (s : Bool) (rn rd rs : BitVec 4) (sh : ShiftKind)
    (rm : BitVec 4) {w : Word} (h : w = encodeDpShr code c s rn rd rs sh rm) :
    field 28 4 w = c.bits ∧ field 25 3 w = 0 ∧ field 21 4 w = code ∧ bit w 20 = s ∧ field 16 4 w = rn ∧
    field 12 4 w = rd ∧
      field 8 4 w = rs ∧ bit w 7 = false ∧ field 5 2 w = sh.bits ∧ bit w 4 = true ∧ field 0 4 w = rm := by
  subst h
  simp [encodeDpShr, putCond, field_put_below, field_put_above, field_put_same, field_putBit_out, bit_put_below,
    bit_put_above, bit_put_inner, bit_putBit_same, bit_putBit_ne]

theorem decode_encodeDp_dp (op : DpOp) (o : Op2) (c : Cond) (s : Bool) (rn rd : RegNum) {w : Word}
    (h : w = encodeDp o (dpCode op) c s rn rd) : decode w = .ok (op.instr o c s rn rd) := by
  have hmisc (h21 : field 21 4 w = dpCode op) : field 23 2 w ≠ 2#2 := by
    rw [field_23_2, h21]; exact dpCode_hi op
  cases o with
  | imm rotate imm8 =>
    obtain ⟨hc, h25, h21, h20, h16, h12, h8, h0⟩ := fields_encodeDpImm _ _ _ _ _ _ _ h
    rw [decode_of_condField hc]
    simp [decodeBody, h25, decode001, hmisc h21, decodeDpImm_dp c h21, h20, h16, h12, h8, h0]
  | shi amount shift rm =>
    obtain ⟨hc, h25, h21, h20, h16, h12, h7, h5, h4, h0⟩ := fields_encodeDpShi _ _ _ _ _ _ _ _ h
    rw [decode_of_condField hc]
    simp [decodeBody, h25, decode000, hmisc h21, h4, decodeDpShi_dp c h21, h20, h16, h12, h7, h5, h0]
  | shr rs shift rm =>
    obtain ⟨hc, h25, h21, h20, h16, h12, h8, h7, h5, h4, h0⟩ := fields_encodeDpShr _ _ _ _ _ _ _ _ h
    rw [decode_of_condField hc]
    simp [decodeBody, h25, decode000, hmisc h21, h7, h4, decodeDpShr_dp c h21, h20, h16, h12, h8, h5, h0]

theorem decode_encodeDp_cmp (op : CmpOp) (o : Op2) (c : Cond) (rn sbz : RegNum) {w : Word}
    (h : w = encodeDp o (cmpCode op) c true rn sbz) : decode w = .ok (op.instr o c rn sbz) := by
  cases o with
  | imm rotate imm8 =>
    obtain ⟨hc, h25, h21, h20, h16, h12, h8, h0⟩ := fields_encodeDpImm _ _ _ _ _ _ _ h
    rw [decode_of_condField hc]
    simp [decodeBody, h25, decode001, h20, decodeDpImm_cmp c h21, h16, h12, h8, h0]
  | shi amount shift rm =>
    obtain ⟨hc, h25, h21, h20, h16, h12, h7, h5, h4, h0⟩ := fields_encodeDpShi _ _ _ _ _ _ _ _ h
    rw [decode_of_condField hc]
    simp [decodeBody, h25, decode000, h4, h20, decodeDpShi_cmp c h21, h16, h12, h7, h5, h0]
  | shr rs shift rm =>
    obtain ⟨hc, h25, h21, h20, h16, h12, h8, h7, h5, h4, h0⟩ := fields_encodeDpShr _ _ _ _ _ _ _ _ h
    rw [decode_of_condField hc]
    simp [decodeBody, h25, decode000, h7, h4, h20, decodeDpShr_cmp c h21, h16, h12, h8, h5, h0]

theorem fields_encodeMul (kind : BitVec 3) (c : Cond) (s : Bool) (a d rs rm : BitVec 4) {w : Word}
    (h : w = encodeMul kind c s a d rs rm) :
    field 28 4 w = c.bits ∧ field 25 3 w = 0 ∧ field 23 2 w = kind.extractLsb' 2 2 ∧
    field 22 3 w = kind.extractLsb' 1 3 ∧
      bit w 22 = kind.getLsbD 1 ∧ bit w 21 = kind.getLsbD 0 ∧ bit w 20 = s ∧ field 16 4 w = a ∧ field 12 4 w = d ∧
      field 8 4 w = rs ∧ bit w 7 = true ∧ field 5 2 w = 0 ∧ bit w 4 = true ∧ field 0 4 w = rm := by
  subst h
  simp [encodeMul, putCond, field_put_inner 22 3 21 kind, field_put_inner 23 2 21 kind, field_put_inner 5 2 4 9#4,
    bit_put_inner 22 21 kind, bit_put_inner 21 21 kind, bit_put_inner 7 4 9#4, bit_put_inner 4 4 9#4, field_put_below,
    field_put_above, field_put_same, field_putBit_out, bit_put_below,
    bit_put_above, bit_putBit_same, bit_putBit_ne]

theorem decode_mul (c : Cond) (s : Bool) (a d rs rm : BitVec 4) :
    decode (encodeMul 0 c s a d rs rm) = .ok (.mul c s a d rs rm) := by
  obtain ⟨hc, h25, h23, h22, hb22, hb21, h20, h16, h12, h8, h7, h5, h4, h0⟩ := fields_encodeMul 0 c s a d rs rm rfl
  rw [decode_of_condField hc]
  simp only [decodeBody, h25, decode000, h7, h4, h5, decodeMulSwap, h22, hb21, h20, h16, h12, h8, h0]
  rfl

theorem decode_mla (c : Cond) (s : Bool) (a d rs rm : BitVec 4) :
    decode (encodeMul 1 c s a d rs rm) = .ok (.mla c s a d rs rm) := by
  obtain ⟨hc, h25, h23, h22, hb22, hb21, h20, h16, h12, h8, h7, h5, h4, h0⟩ := fields_encodeMul 1 c s a d rs rm rfl
  rw [decode_of_condField hc]
  simp only [decodeBody, h25, decode000, h7, h4, h5, decodeMulSwap, h22, hb21, h20, h16, h12, h8, h0]
  rfl

/-- Bits [23:21] of a long multiply. -/
def longCode : LongOp → BitVec 3
  | .umull => 4 | .umlal => 5 | .smull => 6 | .smlal => 7

theorem encode_long (op : LongOp) (c : Cond) (s : Bool) (a d rs rm : BitVec 4) :
    encode (op.instr c s a d rs rm) = encodeMul (longCode op) c s a d rs rm := by
  cases op <;> rfl

theorem decode_long (op : LongOp) (c : Cond) (s : Bool) (a d rs rm : BitVec 4) :
    decode (encodeMul (longCode op) c s a d rs rm) = .ok (op.instr c s a d rs rm) := by
  obtain ⟨hc, h25, h23, h22, hb22, hb21, h20, h16, h12, h8, h7, h5, h4, h0⟩ :=
    fields_encodeMul (longCode op) c s a d rs rm rfl
  rw [decode_of_condField hc]
  simp only [decodeBody, h25, decode000, h7, h4, h5, decodeMulSwap, h22, h23, hb22, hb21, h20, h16, h12, h8, h0]
  cases op <;> rfl

theorem fields_encodeSwap (b : Bool) (c : Cond) (rn rd rm : BitVec 4) {w : Word}
    (h : w = encodeSwap b c rn rd rm) :
    field 28 4 w = c.bits ∧ field 25 3 w = 0 ∧ field 23 2 w = 2 ∧ bit w 22 = b ∧ field 20 2 w = 0 ∧
      field 16 4 w = rn ∧ field 12 4 w = rd ∧ field 8 4 w = 0 ∧ bit w 7 = true ∧ field 5 2 w = 0 ∧ bit w 4 = true ∧
      field 0 4 w = rm := by
  subst h
  simp [encodeSwap, putCond, field_put_inner 25 3 23 2#5, field_put_inner 23 2 23 2#5, field_put_inner 5 2 4 9#4,
    bit_put_inner 7 4 9#4, bit_put_inner 4 4 9#4, field_put_below, field_put_above, field_put_same, field_putBit_out,
    bit_put_below,
    bit_put_above, bit_putBit_same, bit_putBit_ne]

theorem encode_swap (byte : Bool) (c : Cond) (rn rd rm : BitVec 4) :
    encode (swapInstr byte c rn rd rm) = encodeSwap byte c rn rd rm := by
  cases byte <;> rfl

theorem decode_encodeSwap (byte : Bool) (c : Cond) (rn rd rm : BitVec 4) :
    decode (encodeSwap byte c rn rd rm) = .ok (swapInstr byte c rn rd rm) := by
  obtain ⟨hc, h25, h23, hb22, h20, h16, h12, h8, h7, h5, h4, h0⟩ := fields_encodeSwap byte c rn rd rm rfl
  have h22 : field 22 3 (encodeSwap byte c rn rd rm) ≠ 0 := fun h => by
    have hpart := extractLsb'_field (lo := 22) (m := 3) (k := 1) (n := 2) (by decide) (encodeSwap byte c rn rd rm)
    rw [h, h23] at hpart
    exact absurd hpart (by decide)
  rw [decode_of_condField hc]
  simp only [decodeBody, h25, decode000, h7, h4, h5, decodeMulSwap, h22, h23, hb22, h20, h16, h12, h8, h0]
  cases byte <;> rfl

theorem fields_encodeHalfReg (l : Bool) (sh : BitVec 2) (c : Cond) (p u wb : Bool) (rn rd rm : BitVec 4) {w : Word}
    (h : w = encodeHalfReg l sh c p u wb rn rd rm) :
    field 28 4 w = c.bits ∧ field 25 3 w = 0 ∧ bit w 24 = p ∧ bit w 23 = u ∧ bit w 22 = false ∧ bit w 21 = wb ∧
    bit w 20 = l ∧
      field 16 4 w = rn ∧ field 12 4 w = rd ∧ field 8 4 w = 0 ∧ bit w 7 = true ∧ field 5 2 w = sh ∧
      bit w 6 = sh.getLsbD 1 ∧ bit w 5 = sh.getLsbD 0 ∧ bit w 4 = true ∧ field 0 4 w = rm := by
  subst h
  simp [encodeHalfReg, putCond, bit_put_inner 7 7 1#1, bit_put_inner 4 4 1#1, bit_put_inner 6 5 sh,
    bit_put_inner 5 5 sh, field_put_below, field_put_above, field_put_same, field_putBit_out, bit_put_below,
    bit_put_above, bit_putBit_same, bit_putBit_ne]

theorem fields_encodeHalfImm (l : Bool) (sh : BitVec 2) (c : Cond) (p u wb : Bool) (rn rd : BitVec 4) (off : BitVec 8)
    {w : Word}
    (h : w = encodeHalfImm l sh c p u wb rn rd off) :
    field 28 4 w = c.bits ∧ field 25 3 w = 0 ∧ bit w 24 = p ∧ bit w 23 = u ∧ bit w 22 = true ∧ bit w 21 = wb ∧
    bit w 20 = l ∧
      field 16 4 w = rn ∧ field 12 4 w = rd ∧ field 8 4 w = off.extractLsb' 4 4 ∧ bit w 7 = true ∧ field 5 2 w = sh ∧
      bit w 6 = sh.getLsbD 1 ∧ bit w 5 = sh.getLsbD 0 ∧ bit w 4 = true ∧ field 0 4 w = off.extractLsb' 0 4 := by
  subst h
  simp [encodeHalfImm, putCond, bit_put_inner 22 22 1#1, bit_put_inner 7 7 1#1, bit_put_inner 4 4 1#1,
    bit_put_inner 6 5 sh, bit_put_inner 5 5 sh, field_put_below, field_put_above, field_put_same, field_putBit_out,
    bit_put_below,
    bit_put_above, bit_putBit_same, bit_putBit_ne]

/-- The load bit and the bits S and H of a halfword or signed transfer (R96). -/
def halfCode : HalfOp → Bool × BitVec 2
  | .strh => (false, 1) | .ldrh => (true, 1) | .ldrsb => (true, 2) | .ldrsh => (true, 3)

/-- The word of a halfword or signed transfer with this offset. -/
def encodeHalf (o : HalfOff) (code : Bool × BitVec 2) (c : Cond) (p u w : Bool) (rn rd : RegNum) : Word :=
  match o with
  | .imm off => encodeHalfImm code.1 code.2 c p u w rn rd off
  | .reg rm => encodeHalfReg code.1 code.2 c p u w rn rd rm

theorem encode_half (op : HalfOp) (p w : Bool) (o : HalfOff) (c : Cond) (u : Bool) (rn rd : RegNum) :
    encode ((Single.half op p w o).instr c u rn rd) = encodeHalf o (halfCode op) c p u w rn rd := by
  cases o <;> cases op <;> rfl

theorem decode_encodeHalf (op : HalfOp) (p wb : Bool) (o : HalfOff) (c : Cond) (u : Bool) (rn rd : RegNum) {w : Word}
    (h : w = encodeHalf o (halfCode op) c p u wb rn rd) : decode w = .ok ((Single.half op p wb o).instr c u rn rd) := by
  cases o with
  | imm off =>
    obtain ⟨hc, h25, h24, h23, h22, h21, h20, h16, h12, h8, h7, h52, h6, h5, h4, h0⟩ :=
      fields_encodeHalfImm _ _ _ _ _ _ _ _ _ h
    rw [decode_of_condField hc]
    simp only [decodeBody, h25, decode000, h7, h4, h52, decodeHalf, h24, h23, h22, h21, h20, h16, h12, h8, h6, h5, h0,
      byte_halves]
    cases op <;> simp [halfCode, Single.instr]
  | reg rm =>
    obtain ⟨hc, h25, h24, h23, h22, h21, h20, h16, h12, h8, h7, h52, h6, h5, h4, h0⟩ :=
      fields_encodeHalfReg _ _ _ _ _ _ _ _ _ h
    rw [decode_of_condField hc]
    simp only [decodeBody, h25, decode000, h7, h4, h52, decodeHalf, h24, h23, h22, h21, h20, h16, h12, h8, h6, h5, h0]
    cases op <;> simp [halfCode, Single.instr]

theorem fields_encodeSdtImm (b l : Bool) (c : Cond) (p u wb : Bool) (rn rd : BitVec 4) (off : BitVec 12) {w : Word}
    (h : w = encodeSdtImm b l c p u wb rn rd off) :
    field 28 4 w = c.bits ∧ field 25 3 w = 2 ∧ bit w 24 = p ∧ bit w 23 = u ∧ bit w 22 = b ∧ bit w 21 = wb ∧
    bit w 20 = l ∧
      field 16 4 w = rn ∧ field 12 4 w = rd ∧ field 0 12 w = off := by
  subst h
  simp [encodeSdtImm, putCond, field_put_below, field_put_above, field_put_same, field_putBit_out, bit_put_below,
    bit_put_above, bit_putBit_same, bit_putBit_ne]

theorem fields_encodeSdtReg (b l : Bool) (c : Cond) (p u wb : Bool) (rn rd : BitVec 4) (am : BitVec 5) (sh : ShiftKind)
    (rm : BitVec 4) {w : Word}
    (h : w = encodeSdtReg b l c p u wb rn rd am sh rm) :
    field 28 4 w = c.bits ∧ field 25 3 w = 3 ∧ bit w 24 = p ∧ bit w 23 = u ∧ bit w 22 = b ∧ bit w 21 = wb ∧
    bit w 20 = l ∧
      field 16 4 w = rn ∧ field 12 4 w = rd ∧ field 7 5 w = am ∧ field 5 2 w = sh.bits ∧ bit w 4 = false ∧
      field 0 4 w = rm := by
  subst h
  simp [encodeSdtReg, putCond, field_put_below, field_put_above, field_put_same, field_putBit_out, bit_put_below,
    bit_put_above, bit_putBit_same, bit_putBit_ne]

/-- The bits P and W of an address mode (R97, R214). -/
def modeCode : SdtMode → Bool × Bool
  | .pre w => (true, w) | .post => (false, false) | .user => (false, true)

/-- The word of a word or byte transfer with this offset. -/
def encodeSdt (o : Off) (b l : Bool) (code : Bool × Bool) (c : Cond) (u : Bool) (rn rd : RegNum) : Word :=
  match o with
  | .imm off => encodeSdtImm b l c code.1 u code.2 rn rd off
  | .reg amount shift rm => encodeSdtReg b l c code.1 u code.2 rn rd amount shift rm

theorem encode_plain (load byte : Bool) (mode : SdtMode) (o : Off) (c : Cond) (u : Bool) (rn rd : RegNum) :
    encode ((Single.plain load byte mode o).instr c u rn rd) = encodeSdt o byte load (modeCode mode) c u rn rd := by
  cases o <;> cases mode <;> cases byte <;> cases load <;> rfl

theorem decode_encodeSdt (load byte : Bool) (mode : SdtMode) (o : Off) (c : Cond) (u : Bool) (rn rd : RegNum) {w : Word}
    (h : w = encodeSdt o byte load (modeCode mode) c u rn rd) :
    decode w = .ok ((Single.plain load byte mode o).instr c u rn rd) := by
  cases o with
  | imm off =>
    obtain ⟨hc, h25, h24, h23, h22, h21, h20, h16, h12, h0⟩ := fields_encodeSdtImm _ _ _ _ _ _ _ _ _ h
    rw [decode_of_condField hc]
    simp only [decodeBody, h25, decode010, h24, h23, h22, h21, h20, h16, h12, h0]
    cases mode <;> cases byte <;> cases load <;> rfl
  | reg amount shift rm =>
    obtain ⟨hc, h25, h24, h23, h22, h21, h20, h16, h12, h7, h5, h4, h0⟩ := fields_encodeSdtReg _ _ _ _ _ _ _ _ _ _ _ h
    rw [decode_of_condField hc]
    simp only [decodeBody, h25, decode011, h24, h23, h22, h21, h20, h16, h12, h7, h5, h4, h0, sh_ofBits_bits]
    cases mode <;> cases byte <;> cases load <;> rfl

theorem fields_encodeBlock (p u l : Bool) (c : Cond) (s wb : Bool) (rn : BitVec 4) (list : BitVec 16) {w : Word}
    (h : w = encodeBlock p u l c s wb rn list) :
    field 28 4 w = c.bits ∧ field 25 3 w = 4 ∧ bit w 24 = p ∧ bit w 23 = u ∧ bit w 22 = s ∧ bit w 21 = wb ∧
    bit w 20 = l ∧
      field 16 4 w = rn ∧ field 0 16 w = list := by
  subst h
  simp [encodeBlock, putCond, field_put_below, field_put_above, field_put_same, field_putBit_out, bit_put_below,
    bit_put_above, bit_putBit_same, bit_putBit_ne]

/-- The bits P and U of a block mode (R231). -/
def blockCode : BlockMode → Bool × Bool
  | .ia => (false, true) | .ib => (true, true) | .da => (false, false) | .db => (true, false)

theorem encode_ldm (k : BlockMode) (c : Cond) (s w : Bool) (rn : RegNum) (list : BitVec 16) :
    encode (ldm k c s w rn list) = encodeBlock (blockCode k).1 (blockCode k).2 true c s w rn list := by
  cases k <;> rfl

theorem encode_stm (k : BlockMode) (c : Cond) (s w : Bool) (rn : RegNum) (list : BitVec 16) :
    encode (stm k c s w rn list) = encodeBlock (blockCode k).1 (blockCode k).2 false c s w rn list := by
  cases k <;> rfl

theorem decode_encodeBlock (k : BlockMode) (load : Bool) (c : Cond) (s wb : Bool) (rn : RegNum) (list : BitVec 16)
    {w : Word} (h : w = encodeBlock (blockCode k).1 (blockCode k).2 load c s wb rn list) :
    decode w = .ok (if load then ldm k c s wb rn list else stm k c s wb rn list) := by
  obtain ⟨hc, h25, h24, h23, h22, h21, h20, h16, h0⟩ := fields_encodeBlock _ _ _ _ _ _ _ _ h
  rw [decode_of_condField hc]
  simp only [decodeBody, h25, decode100, h24, h23, h22, h21, h20, h16, h0]
  cases k <;> cases load <;> rfl

theorem fields_encodeBranch (link : Bool) (c : Cond) (imm24 : BitVec 24) {w : Word}
    (h : w = encode (branchInstr link c imm24)) :
    field 28 4 w = c.bits ∧ field 25 3 w = 5 ∧ bit w 24 = link ∧ field 0 24 w = imm24 := by
  subst h
  rw [encode_branch]
  cases link <;>
    simp [putCond, field_put_inner 25 3 24 10#4, field_put_inner 25 3 24 11#4, bit_put_inner 24 24 10#4,
      bit_put_inner 24 24 11#4, field_put_below, field_put_above, field_put_same, bit_put_below, bit_put_above]

theorem decode_encodeBranch (link : Bool) (c : Cond) (imm24 : BitVec 24) :
    decode (encode (branchInstr link c imm24)) = .ok (branchInstr link c imm24) := by
  obtain ⟨hc, h25, h24, h0⟩ := fields_encodeBranch link c imm24 rfl
  rw [decode_of_condField hc]
  simp only [decodeBody, h25, h24, h0]
  cases link <;> rfl

theorem decode_encode_bx (c : Cond) (rm : RegNum) {w : Word} (h : w = encode (.bx c rm)) :
    decode w = .ok (.bx c rm) := by
  have hfields :
      field 28 4 w = c.bits ∧ field 25 3 w = 0 ∧ field 23 2 w = 2 ∧ bit w 20 = false ∧ field 4 24 w = 0x12FFF1 ∧
        bit w 7 = false ∧ field 0 4 w = rm := by
    subst h
    simp [encode, putCond, field_put_inner 25 3 4 0x12FFF1#24, field_put_inner 23 2 4 0x12FFF1#24,
      bit_put_inner 20 4 0x12FFF1#24,
      bit_put_inner 7 4 0x12FFF1#24, field_put_below, field_put_above, field_put_same, bit_put_below, bit_put_above]
  obtain ⟨hc, h25, h23, h20, h4, h7, h0⟩ := hfields
  rw [decode_of_condField hc]
  simp only [decodeBody, h25, decode000, h7, h23, h20, decodeMisc, h4, h0]
  rfl

theorem decode_encode_mrs (c : Cond) (spsr : Bool) (rd : RegNum) {w : Word} (h : w = encode (.mrs c spsr rd)) :
    decode w = .ok (.mrs c spsr rd) := by
  have hfields :
      field 28 4 w = c.bits ∧ field 25 3 w = 0 ∧ field 23 2 w = 2 ∧ bit w 22 = spsr ∧ bit w 20 = false ∧
      field 20 2 w = 0 ∧
        field 16 4 w = 15 ∧ field 12 4 w = rd ∧ bit w 7 = false ∧ field 0 12 w = 0 := by
    subst h
    simp [encode, putCond, field_put_inner 25 3 23 2#5, field_put_inner 23 2 23 2#5, field_put_below, field_put_above,
      field_put_same, field_putBit_out, bit_put_below,
      bit_put_above, bit_putBit_same, bit_putBit_ne]
  obtain ⟨hc, h25, h23, h22, hb20, h20, h16, h12, h7, h0⟩ := hfields
  have hbx : field 4 24 w ≠ 0x12FFF1 := fun hw => by
    have hpart := extractLsb'_field (lo := 4) (m := 24) (k := 16) (n := 2) (by decide) w
    rw [hw, h20] at hpart
    exact absurd hpart (by decide)
  rw [decode_of_condField hc]
  simp only [decodeBody, h25, decode000, h7, h23, hb20, decodeMisc, hbx, h20, h16, h0, h22, h12]
  rfl

theorem decode_encode_msrReg (c : Cond) (spsr : Bool) (mask : BitVec 4) (rm : RegNum) {w : Word}
    (h : w = encode (.msrReg c spsr mask rm)) :
    decode w = .ok (.msrReg c spsr mask rm) := by
  have hfields :
      field 28 4 w = c.bits ∧ field 25 3 w = 0 ∧ field 23 2 w = 2 ∧ bit w 22 = spsr ∧ bit w 20 = false ∧
      field 20 2 w = 2 ∧
        field 16 4 w = mask ∧ field 12 4 w = 15 ∧ bit w 7 = false ∧ field 4 8 w = 0 ∧ field 0 4 w = rm := by
    subst h
    simp [encode, putCond, field_put_inner 25 3 23 2#5, field_put_inner 23 2 23 2#5, bit_put_inner 20 20 2#2,
      field_put_below, field_put_above, field_put_same, field_putBit_out, bit_put_below,
      bit_put_above, bit_putBit_same, bit_putBit_ne]
  obtain ⟨hc, h25, h23, h22, hb20, h20, h16, h12, h7, h4, h0⟩ := hfields
  have hbx : field 4 24 w ≠ 0x12FFF1 := fun hw => by
    have hpart := extractLsb'_field (lo := 4) (m := 24) (k := 0) (n := 8) (by decide) w
    rw [hw, h4] at hpart
    exact absurd hpart (by decide)
  rw [decode_of_condField hc]
  simp only [decodeBody, h25, decode000, h7, h23, hb20, decodeMisc, hbx, h20, h16, h4, h0, h22, h12]
  rfl

theorem decode_encode_msrImm (c : Cond) (spsr : Bool) (mask rotate : BitVec 4) (imm8 : BitVec 8) {w : Word}
    (h : w = encode (.msrImm c spsr mask rotate imm8)) :
    decode w = .ok (.msrImm c spsr mask rotate imm8) := by
  have hfields :
      field 28 4 w = c.bits ∧ field 25 3 w = 1 ∧ field 23 2 w = 2 ∧ bit w 22 = spsr ∧ bit w 21 = true ∧
      bit w 20 = false ∧
        field 16 4 w = mask ∧ field 12 4 w = 15 ∧ field 8 4 w = rotate ∧ field 0 8 w = imm8 := by
    subst h
    simp [encode, putCond, field_put_inner 25 3 23 6#5, field_put_inner 23 2 23 6#5, bit_put_inner 20 20 2#2,
      bit_put_inner 21 20 2#2,
      field_put_below, field_put_above, field_put_same, field_putBit_out, bit_put_below,
      bit_put_above, bit_putBit_same, bit_putBit_ne]
  obtain ⟨hc, h25, h23, h22, h21, h20, h16, h12, h8, h0⟩ := hfields
  rw [decode_of_condField hc]
  simp only [decodeBody, h25, decode001, h23, h20, h22, h21, h16, h12, h8, h0]
  rfl

theorem decode_encode_undefined (c : Cond) (hi : BitVec 20) (lo : BitVec 4) {w : Word}
    (h : w = encode (.undefined c hi lo)) :
    decode w = .ok (.undefined c hi lo) := by
  have hfields :
      field 28 4 w = c.bits ∧ field 25 3 w = 3 ∧ field 5 20 w = hi ∧ bit w 4 = true ∧ field 0 4 w = lo := by
    subst h
    simp [encode, putCond, bit_put_inner 4 4 1#1, field_put_below, field_put_above, field_put_same, bit_put_below,
      bit_put_above]
  obtain ⟨hc, h25, h5, h4, h0⟩ := hfields
  rw [decode_of_condField hc]
  simp only [decodeBody, h25, decode011, h5, h4, h0]
  rfl

theorem decode_encode_swi (c : Cond) (number : BitVec 24) {w : Word} (h : w = encode (.swi c number)) :
    decode w = .ok (.swi c number) := by
  have hfields :
      field 28 4 w = c.bits ∧ field 25 3 w = 7 ∧ bit w 24 = true ∧ field 0 24 w = number := by
    subst h
    simp [encode, putCond, field_put_inner 25 3 24 15#4, bit_put_inner 24 24 15#4, field_put_below, field_put_above,
      field_put_same, bit_put_below, bit_put_above]
  obtain ⟨hc, h25, h24, h0⟩ := hfields
  rw [decode_of_condField hc]
  simp only [decodeBody, h25, decode111, h24, h0]
  rfl

theorem decode_encode_cdp (c : Cond) (op1 crn crd cp : BitVec 4) (op2 : BitVec 3) (crm : BitVec 4) {w : Word}
    (h : w = encode (.cdp c op1 crn crd cp op2 crm)) :
    decode w = .ok (.cdp c op1 crn crd cp op2 crm) := by
  have hfields :
      field 28 4 w = c.bits ∧ field 25 3 w = 7 ∧ bit w 24 = false ∧ field 20 4 w = op1 ∧ field 16 4 w = crn ∧
      field 12 4 w = crd ∧
        field 8 4 w = cp ∧ field 5 3 w = op2 ∧ bit w 4 = false ∧ field 0 4 w = crm := by
    subst h
    simp [encode, putCond, field_put_inner 25 3 24 14#4, bit_put_inner 24 24 14#4, field_put_below, field_put_above,
      field_put_same, bit_put_below, bit_put_above]
  obtain ⟨hc, h25, h24, h20, h16, h12, h8, h5, h4, h0⟩ := hfields
  rw [decode_of_condField hc]
  simp only [decodeBody, h25, decode111, h24, h20, h16, h12, h8, h5, h4, h0]
  rfl

theorem fields_encodeCpTransfer (l : Bool) (c : Cond) (p u n wb : Bool) (rn crd cp : BitVec 4) (off : BitVec 8)
    {w : Word}
    (h : w = encodeCpTransfer l c p u n wb rn crd cp off) :
    field 28 4 w = c.bits ∧ field 25 3 w = 6 ∧ bit w 24 = p ∧ bit w 23 = u ∧ bit w 22 = n ∧ bit w 21 = wb ∧
    bit w 20 = l ∧
      field 16 4 w = rn ∧ field 12 4 w = crd ∧ field 8 4 w = cp ∧ field 0 8 w = off := by
  subst h
  simp [encodeCpTransfer, putCond, field_put_below, field_put_above, field_put_same, field_putBit_out, bit_put_below,
    bit_put_above, bit_putBit_same, bit_putBit_ne]

theorem decode_encodeCpTransfer (l : Bool) (c : Cond) (p u n wb : Bool) (rn crd cp : BitVec 4) (off : BitVec 8)
    {w : Word}
    (h : w = encodeCpTransfer l c p u n wb rn crd cp off) :
    decode w = .ok (if l then .ldc c p u n wb rn crd cp off else .stc c p u n wb rn crd cp off) := by
  obtain ⟨hc, h25, h24, h23, h22, h21, h20, h16, h12, h8, h0⟩ := fields_encodeCpTransfer _ _ _ _ _ _ _ _ _ _ h
  rw [decode_of_condField hc]
  simp only [decodeBody, h25, decode110, h24, h23, h22, h21, h20, h16, h12, h8, h0]
  cases l <;> rfl

theorem fields_encodeCpRegister (l : Bool) (c : Cond) (op1 : BitVec 3) (crn rd cp : BitVec 4) (op2 : BitVec 3)
    (crm : BitVec 4) {w : Word}
    (h : w = encodeCpRegister l c op1 crn rd cp op2 crm) :
    field 28 4 w = c.bits ∧ field 25 3 w = 7 ∧ bit w 24 = false ∧ field 21 3 w = op1 ∧ bit w 20 = l ∧
    field 16 4 w = crn ∧
      field 12 4 w = rd ∧ field 8 4 w = cp ∧ field 5 3 w = op2 ∧ bit w 4 = true ∧ field 0 4 w = crm := by
  subst h
  simp [encodeCpRegister, putCond, field_put_inner 25 3 24 14#4, bit_put_inner 24 24 14#4, bit_put_inner 4 4 1#1,
    field_put_below, field_put_above, field_put_same, field_putBit_out, bit_put_below,
    bit_put_above, bit_putBit_same, bit_putBit_ne]

theorem decode_encodeCpRegister (l : Bool) (c : Cond) (op1 : BitVec 3) (crn rd cp : BitVec 4) (op2 : BitVec 3)
    (crm : BitVec 4) {w : Word} (h : w = encodeCpRegister l c op1 crn rd cp op2 crm) :
    decode w = .ok (if l then .mrc c op1 crn rd cp op2 crm else .mcr c op1 crn rd cp op2 crm) := by
  obtain ⟨hc, h25, h24, h21, h20, h16, h12, h8, h5, h4, h0⟩ := fields_encodeCpRegister _ _ _ _ _ _ _ _ h
  rw [decode_of_condField hc]
  simp only [decodeBody, h25, decode111, h24, h21, h20, h16, h12, h8, h5, h4, h0]
  cases l <;> rfl

theorem decode_encode_coprocessor {i : Instr} {cp : BitVec 4} (h : coprocessorOf i = some cp) :
    decode (encode i) = .ok i := by
  cases i <;> simp only [coprocessorOf] at h <;> cases h
  case ldc => exact decode_encodeCpTransfer true _ _ _ _ _ _ _ _ _ rfl
  case stc => exact decode_encodeCpTransfer false _ _ _ _ _ _ _ _ _ rfl
  case cdp => exact decode_encode_cdp _ _ _ _ _ _ _ rfl
  case mcr => exact decode_encodeCpRegister false _ _ _ _ _ _ _ rfl
  case mrc => exact decode_encodeCpRegister true _ _ _ _ _ _ _ rfl

/-- Settles O1: the decoder reads back every field of the format, and from them it finds the group and the
instruction. -/
theorem decodeEncode : Obligations.DecodeEncode := by
  unfold Obligations.DecodeEncode
  intro i
  induction i using instr_cases with
  | dp op o c flags rn rd => exact decode_encodeDp_dp op o c flags rn rd (encode_dp op o c flags rn rd)
  | cmp op o c rn sbz => exact decode_encodeDp_cmp op o c rn sbz (encode_cmp op o c rn sbz)
  | mul c flags rd sbz rs rm => exact decode_mul c flags rd sbz rs rm
  | mla c flags rd rn rs rm => exact decode_mla c flags rd rn rs rm
  | long op c flags rdHi rdLo rs rm => rw [encode_long]; exact decode_long op c flags rdHi rdLo rs rm
  | single x c u rn rd =>
    cases x with
    | plain load byte mode o =>
      exact decode_encodeSdt load byte mode o c u rn rd (encode_plain load byte mode o c u rn rd)
    | half op p w o => exact decode_encodeHalf op p w o c u rn rd (encode_half op p w o c u rn rd)
  | ldm k c caret w rn list => exact decode_encodeBlock k true c caret w rn list (encode_ldm k c caret w rn list)
  | stm k c caret w rn list => exact decode_encodeBlock k false c caret w rn list (encode_stm k c caret w rn list)
  | swap byte c rn rd rm => rw [encode_swap]; exact decode_encodeSwap byte c rn rd rm
  | branch link c imm24 => exact decode_encodeBranch link c imm24
  | bx c rm => exact decode_encode_bx c rm rfl
  | mrs c spsr rd => exact decode_encode_mrs c spsr rd rfl
  | msr x c spsr mask =>
    cases x with
    | reg rm => exact decode_encode_msrReg c spsr mask rm rfl
    | imm rotate imm8 => exact decode_encode_msrImm c spsr mask rotate imm8 rfl
  | swi c number => exact decode_encode_swi c number rfl
  | undefined c hi lo => exact decode_encode_undefined c hi lo rfl
  | coprocessor i cp h => exact decode_encode_coprocessor h

theorem decode_of_encode {w : Word} {i : Instr} (h : encode i = w) : decode w = .ok i := by
  rw [← h]
  exact decodeEncode i

/-- Settles O3: each word is the encoding of its instruction, so it decodes to it. -/
theorem decodeWorkedExamples : Obligations.DecodeWorkedExamples := by
  unfold Obligations.DecodeWorkedExamples
  refine ⟨?_, ?_, ?_, ?_, ?_, ?_, ?_, ?_, ?_⟩ <;> exact decode_of_encode (by decide)

end Sys2Proof.Proofs
end

section
/-! PROOFS. Everything an instruction can do: how it changes the state before its end, and how it ends. -/

namespace Sys2Proof.Proofs

open Sys2Proof.Machine Sys2Proof.Claims

/-! ### The part of an instruction before its end -/

/-- What a change of the state in User mode leaves alone (R47, R331). -/
structure UserFrame (s u : State) : Prop where
  m : u.cpsr.m = s.cpsr.m
  i : u.cpsr.i = s.cpsr.i
  f : u.cpsr.f = s.cpsr.f
  spsrSvc : u.spsrSvc = s.spsrSvc
  spsrAbt : u.spsrAbt = s.spsrAbt
  spsrUnd : u.spsrUnd = s.spsrUnd
  spsrIrq : u.spsrIrq = s.spsrIrq
  spsrFiq : u.spsrFiq = s.spsrFiq
  cells : ∀ q ∈ privilegedCells, u.regs.get q = s.regs.get q

/-- `u` comes from `s` by what the instruction `i` may do before its end: it writes registers, status registers and
memory, and assigns the PC only at its end. -/
structure Effect (i : Instr) (s u : State) : Prop where
  pc : u.pc = s.pc
  platform : u.platform = s.platform
  lines : u.lines = s.lines
  flags : mayWriteFlags i = false →
    u.cpsr.n = s.cpsr.n ∧ u.cpsr.z = s.cpsr.z ∧ u.cpsr.c = s.cpsr.c ∧ u.cpsr.v = s.cpsr.v
  memory : mayWriteMemory i = false → u.mem = s.mem ∧ u.stale = s.stale
  wf : s.mem.wf = true → u.mem.wf = true
  records : ∀ e ∈ u.stale, e ∈ s.stale ∨ e.addr = s.pc + 4 ∨ e.addr = s.pc + 8
  thumb : u.cpsr.t = s.cpsr.t ∨ u.cpsr.t = false
  mode : u.cpsr.m = s.cpsr.m ∨ u.cpsr.mode.isSome = true
  user : s.privileged = false → UserFrame s u

theorem UserFrame.refl (s : State) : UserFrame s s := ⟨rfl, rfl, rfl, rfl, rfl, rfl, rfl, rfl, fun _ _ => rfl⟩

theorem UserFrame.trans {s u v : State} (h : UserFrame s u) (k : UserFrame u v) : UserFrame s v where
  m := k.m.trans h.m
  i := k.i.trans h.i
  f := k.f.trans h.f
  spsrSvc := k.spsrSvc.trans h.spsrSvc
  spsrAbt := k.spsrAbt.trans h.spsrAbt
  spsrUnd := k.spsrUnd.trans h.spsrUnd
  spsrIrq := k.spsrIrq.trans h.spsrIrq
  spsrFiq := k.spsrFiq.trans h.spsrFiq
  cells q hq := (k.cells q hq).trans (h.cells q hq)

/-- Two modes that agree in M are privileged alike. -/
theorem privileged_congr {s u : State} (h : u.cpsr.m = s.cpsr.m) : u.privileged = s.privileged := by
  simp [State.privileged, h]

theorem Effect.refl (i : Instr) (s : State) : Effect i s s where
  pc := rfl
  platform := rfl
  lines := rfl
  flags _ := ⟨rfl, rfl, rfl, rfl⟩
  memory _ := ⟨rfl, rfl⟩
  wf h := h
  records _ he := .inl he
  thumb := .inl rfl
  mode := .inl rfl
  user _ := .refl s

theorem Effect.trans {i : Instr} {s u v : State} (h : Effect i s u) (k : Effect i u v) : Effect i s v where
  pc := k.pc.trans h.pc
  platform := k.platform.trans h.platform
  lines := k.lines.trans h.lines
  flags hi := by
    obtain ⟨hn, hz, hc, hv⟩ := h.flags hi
    obtain ⟨kn, kz, kc, kv⟩ := k.flags hi
    exact ⟨kn.trans hn, kz.trans hz, kc.trans hc, kv.trans hv⟩
  memory hi := ⟨(k.memory hi).1.trans (h.memory hi).1, (k.memory hi).2.trans (h.memory hi).2⟩
  wf hs := k.wf (h.wf hs)
  records e he := by
    obtain hu | hnew := k.records e he
    · exact h.records e hu
    · exact .inr (h.pc ▸ hnew)
  thumb := by
    obtain hk | hk := k.thumb
    · exact h.thumb.imp hk.trans hk.trans
    · exact .inr hk
  mode := by
    obtain hk | hk := k.mode
    · exact h.mode.imp hk.trans fun hu => by rwa [Psr.mode, hk]
    · exact .inr hk
  user hs := (h.user hs).trans (k.user ((privileged_congr (h.user hs).m).trans hs))

/-- No name of the User bank selects a register of another bank (R22). -/
theorem phys_usr_not_privileged {i : RegNum} {q : PhysReg} (hq : q ∈ privilegedCells) :
    phys Mode.usr.bits i ≠ some q := by
  have table : ∀ i : RegNum, ∀ q ∈ privilegedCells, phys Mode.usr.bits i ≠ some q := by decide
  exact table i q hq

/-- A change of registers alone, which in User mode reaches no other bank. -/
theorem Effect.of_regs {i : Instr} {s : State} (g : Regs)
    (h : s.privileged = false → ∀ q ∈ privilegedCells, g.get q = s.regs.get q) : Effect i s { s with regs := g } :=
  { Effect.refl i s with user := fun hs => { UserFrame.refl s with cells := h hs } }

theorem m_of_not_privileged {s : State} (h : s.privileged = false) : s.cpsr.m = Mode.usr.bits := by
  simpa [State.privileged] using h

theorem Effect.writeReg (i : Instr) (s : State) {r : RegNum} (hr : r ≠ 15) (v : Word) :
    Effect i s (s.writeReg r v) := by
  rw [s.writeReg_of_ne v hr]
  refine .of_regs _ fun hs q hq => ?_
  rw [Regs.get_write, m_of_not_privileged hs, if_neg (phys_usr_not_privileged hq)]

theorem Effect.writeUser (i : Instr) (s : State) {r : RegNum} (hr : r ≠ 15) (v : Word) :
    Effect i s (s.writeUser r v) := by
  rw [s.writeUser_of_ne v hr]
  refine .of_regs _ fun _ q hq => ?_
  rw [Regs.get_write, if_neg (phys_usr_not_privileged hq)]

theorem Effect.writeBase (i : Instr) (s : State) {r : RegNum} {b : Option Word} (h : r ≠ 15 ∨ b = none) :
    Effect i s (s.writeBase r b) := by
  cases b with
  | none => exact .refl i s
  | some v => exact .writeReg i s (h.resolve_right (by simp)) v

theorem Effect.setDraws (i : Instr) (s : State) (n : Nat) : Effect i s { s with draws := n } :=
  { Effect.refl i s with user := fun _ => { UserFrame.refl s with } }

/-- The flags written, and nothing else of the CPSR. -/
theorem Effect.setFlags {i : Instr} (s : State) {p : Psr} (hflags : mayWriteFlags i = true) (hi : p.i = s.cpsr.i)
    (hf : p.f = s.cpsr.f) (ht : p.t = s.cpsr.t) (hm : p.m = s.cpsr.m) : Effect i s { s with cpsr := p } :=
  { Effect.refl i s with
    flags := fun h => absurd (h.symm.trans hflags) (by decide)
    thumb := .inl ht
    mode := .inl hm
    user := fun _ => { UserFrame.refl s with m := hm, i := hi, f := hf } }

/-- A record that a store adds is of one of the two words that follow (R79). -/
theorem mem_missedBy {s : State} {a : Word} {e : Stale} (h : e ∈ s.missedBy a) :
    e.addr = s.pc + 4 ∨ e.addr = s.pc + 8 := by
  unfold State.missedBy at h
  split at h
  · rw [List.mem_singleton.1 h]
    assumption
  · cases h

theorem Effect.store {i : Instr} (s : State) (z : Size) (a v : Word) (hmem : mayWriteMemory i = true) :
    Effect i s (s.store z a v) :=
  { Effect.refl i s with
    memory := fun h => absurd (h.symm.trans hmem) (by decide)
    wf := s.wf_store z a v
    records := fun _ he => (List.mem_append.1 he).imp id mem_missedBy
    user := fun _ => { UserFrame.refl s with } }

/-! ### The end of an instruction -/

/-- The four ends of an instruction that began in `s` and is done in `u`: it goes on to the next one, branches,
returns from an exception, or takes one of the three exceptions that an instruction raises (R31, R300). -/
inductive Ends (i : Instr) (s u : State) : State → Prop where
  | advance (bank : Bool) (h : u.pc ≠ 0xFFFFFFFC) : Ends i s u { u with pc := u.pc + 4, afterUserBank := bank }
  | branch (v : Word) (hpc : mayWritePc i = true) :
    Ends i s u { u with pc := v &&& 0xFFFFFFFC, stale := [], afterUserBank := false }
  | back (v : Word) (p : Psr) (hpc : mayWritePc i = true) (hflags : mayWriteFlags i = true) (hp : u.spsr = some p)
    (ht : p.t = false) (hm : p.mode ≠ none) :
    Ends i s u { u with cpsr := p, pc := v &&& 0xFFFFFFFC, stale := [], afterUserBank := false }
  | trap (e : Exc) (he : e ∈ [Exc.undefined, Exc.swi, Exc.dataAbort]) (hcpsr : u.cpsr = s.cpsr) :
    Ends i s u (u.takeException e)

/-- What the instruction `i` can make of the state `s`. -/
def CanBecome (i : Instr) (s t : State) : Prop := ∃ u, Effect i s u ∧ Ends i s u t

theorem CanBecome.of_advance {i : Instr} {s u t : State} (h : Effect i s u) (ht : u.advance = .next t) :
    CanBecome i s t := by
  obtain ⟨hpc, rfl⟩ := State.advance_next.1 ht
  exact ⟨u, h, .advance false hpc⟩

theorem CanBecome.of_advanceUserBank {i : Instr} {s u t : State} (h : Effect i s u) (ht : u.advanceUserBank = .next t) :
    CanBecome i s t := by
  unfold State.advanceUserBank at ht
  split at ht
  next u' hu =>
    obtain ⟨hpc, rfl⟩ := State.advance_next.1 hu
    cases ht
    exact ⟨u, h, .advance true hpc⟩
  next o ho => exact absurd ht (ho t)

theorem CanBecome.of_branchTo {i : Instr} {s u t : State} {v : Word} (h : Effect i s u) (hpc : mayWritePc i = true)
    (ht : u.branchTo v = .next t) : CanBecome i s t := by
  rw [State.branchTo_next ht]
  exact ⟨u, h, .branch v hpc⟩

theorem CanBecome.of_exceptionReturn {i : Instr} {s u t : State} {v : Word} (h : Effect i s u)
    (hpc : mayWritePc i = true)
    (hflags : mayWriteFlags i = true) (ht : u.exceptionReturn v = .next t) : CanBecome i s t := by
  obtain ⟨p, hp, hpt, hm, rfl⟩ := State.exceptionReturn_next ht
  exact ⟨u, h, .back v p hpc hflags hp hpt hm⟩

theorem CanBecome.of_trap {i : Instr} {s u t : State} {e : Exc} (h : Effect i s u)
    (he : e ∈ [Exc.undefined, Exc.swi, Exc.dataAbort]) (hcpsr : u.cpsr = s.cpsr)
    (ht : Host.Outcome.next (φ := Fault) (ρ := Refusal) (u.takeException e) = .next t) : CanBecome i s t := by
  cases ht
  exact ⟨u, h, .trap e he hcpsr⟩

/-! ### Group by group -/

theorem mayWriteFlags_dp (op : DpOp) (o : Op2) (c : Cond) (flags : Bool) (rn rd : RegNum) :
    mayWriteFlags (op.instr o c flags rn rd) = flags := by
  cases o <;> cases op <;> rfl

theorem mayWriteFlags_cmp (op : CmpOp) (o : Op2) (c : Cond) (rn sbz : RegNum) :
    mayWriteFlags (op.instr o c rn sbz) = true := by
  cases o <;> cases op <;> rfl

theorem mayWritePc_dp {op : DpOp} {o : Op2} {c : Cond} {flags : Bool} {rn : RegNum}
    (h : (op.instr o c flags rn 15).wf = true) : mayWritePc (op.instr o c flags rn 15) = true := by
  cases o with
  | imm rotate imm8 => cases op <;> rfl
  | shi amount shift rm => cases op <;> rfl
  | shr rs shift rm => cases op <;> simp [DpOp.instr, Instr.wf, noR15] at h

theorem canBecome_dp {op : DpOp} {o : Op2} {c : Cond} {flags : Bool} {rn rd : RegNum} {s t : State} {r : Alu}
    (hwf : (op.instr o c flags rn rd).wf = true) (h : s.finishResult flags rd r = .next t) :
    CanBecome (op.instr o c flags rn rd) s t := by
  have hflags := mayWriteFlags_dp op o c flags rn rd
  unfold State.finishResult at h
  split at h
  next h15 =>
    subst h15
    have hpc := mayWritePc_dp hwf
    cases flags
    · exact .of_branchTo (.refl _ s) hpc h
    · exact .of_exceptionReturn (.refl _ s) hpc hflags h
  next hrd =>
    refine .of_advance (.trans ?_ (.writeReg _ _ hrd r.result)) h
    cases flags
    · exact .refl _ s
    · exact .setFlags s hflags rfl rfl rfl rfl

theorem canBecome_cmp {op : CmpOp} {o : Op2} {c : Cond} {rn sbz : RegNum} {s t : State} {r : Alu}
    (h : s.finishCompare r = .next t) : CanBecome (op.instr o c rn sbz) s t :=
  .of_advance (u := { s with cpsr := s.cpsr.withAlu r })
    (.setFlags s (mayWriteFlags_cmp op o c rn sbz) rfl rfl rfl rfl) h

theorem canBecome_mul {i : Instr} {flags : Bool} {rd : RegNum} {r : Word} {s t : State}
    (hflags : mayWriteFlags i = flags)
    (hrd : rd ≠ 15) (h : s.finishMul flags rd r = .next t) : CanBecome i s t := by
  unfold State.finishMul at h
  split at h
  next hf =>
    have hset : Effect i s { s with cpsr := s.cpsr.withMul r (Config.freeBit s.draws) } :=
      .setFlags s (hflags.trans hf) rfl rfl rfl rfl
    exact .of_advance ((hset.trans (.setDraws _ _ (s.draws + 1))).trans (.writeReg _ _ hrd r)) h
  next => exact .of_advance (.writeReg _ s hrd r) h

theorem mul_ne_15_of_wf {c : Cond} {flags : Bool} {rd rn rs rm : RegNum}
    (h : (Instr.mul c flags rd rn rs rm).wf = true) :
    rd ≠ 15 := by
  simp only [Instr.wf, mulOk, noR15, List.all_cons, Bool.and_eq_true, decide_eq_true_eq] at h
  obtain ⟨-, hrd, -⟩ := h
  exact hrd

theorem mla_ne_15_of_wf {c : Cond} {flags : Bool} {rd rn rs rm : RegNum}
    (h : (Instr.mla c flags rd rn rs rm).wf = true) :
    rd ≠ 15 := by
  simp only [Instr.wf, mulOk, noR15, List.all_cons, Bool.and_eq_true, decide_eq_true_eq] at h
  obtain ⟨-, hrd, -⟩ := h
  exact hrd

theorem canBecome_long {i : Instr} {flags : Bool} {rdHi rdLo : RegNum} {r : BitVec 64} {s t : State}
    (hflags : mayWriteFlags i = flags) (hhi : rdHi ≠ 15) (hlo : rdLo ≠ 15)
    (h : s.finishMulLong flags rdHi rdLo r = .next t) : CanBecome i s t := by
  refine .of_advance (.trans (.trans ?_ (.writeReg _ _ hlo _)) (.writeReg _ _ hhi _)) h
  split
  next hf =>
    have hset : Effect i s
        { s with cpsr := s.cpsr.withMulLong r (Config.freeBit s.draws) (Config.freeBit (s.draws + 1)) } :=
      .setFlags s (hflags.trans hf) rfl rfl rfl rfl
    exact hset.trans (.setDraws _ _ (s.draws + 2))
  next => exact .refl _ s

theorem long_ne_15_of_wf {op : LongOp} {c : Cond} {flags : Bool} {rdHi rdLo rs rm : RegNum}
    (h : (op.instr c flags rdHi rdLo rs rm).wf = true) : rdHi ≠ 15 ∧ rdLo ≠ 15 := by
  have hok : mulLongOk rdHi rdLo rs rm = true := by cases op <;> exact h
  simp only [mulLongOk, noR15, List.all_cons, Bool.and_eq_true, decide_eq_true_eq] at hok
  obtain ⟨-, hhi, hlo, -⟩ := hok
  exact ⟨hhi, hlo⟩

theorem swap_ne_15_of_wf {byte : Bool} {c : Cond} {rn rd rm : RegNum} (h : (swapInstr byte c rn rd rm).wf = true) :
    rd ≠ 15 := by
  have hok : swapOk rn rd rm = true := by cases byte <;> exact h
  simp only [swapOk, noR15, List.all_cons, Bool.and_eq_true, decide_eq_true_eq] at hok
  obtain ⟨-, -, hrd, -⟩ := hok
  exact hrd

theorem canBecome_swap {byte : Bool} {c : Cond} {rn rd rm : RegNum} {z : Size} {s t : State} (hrd : rd ≠ 15)
    (h : s.swap z rn rd rm = .next t) : CanBecome (swapInstr byte c rn rd rm) s t := by
  unfold State.swap at h
  split at h
  · cases h
  · exact .of_trap (.refl _ s) (by simp) rfl h
  · split at h
    · cases h
    · exact .of_trap (.refl _ s) (by simp) rfl h
    next hw =>
      obtain ⟨-, -, rfl⟩ := State.memWrite_ok.1 hw
      exact .of_advance (.trans (.store s z _ _ (by cases byte <;> rfl)) (.writeReg _ _ hrd _)) h

/-! ### Single transfers -/

theorem mayWritePc_single {x : Single} {c : Cond} {u : Bool} {rn : RegNum} (hload : x.isLoad = true)
    (h : (x.instr c u rn 15).wf = true) : mayWritePc (x.instr c u rn 15) = true := by
  rw [← singleCheck_eq_none] at h
  cases x with
  | plain load byte mode o =>
    cases hload
    cases o <;> cases mode <;> cases byte <;> simp_all [singleCheck, notR15_eq_none, dataRegOk, Single.instr,
      mayWritePc]
  | half op p w o => simp [singleCheck, halfForm_eq_none, notR15_eq_none, dataRegOk] at h

theorem mayWriteMemory_single {x : Single} {c : Cond} {u : Bool} {rn rd : RegNum} (hload : x.isLoad = false) :
    mayWriteMemory (x.instr c u rn rd) = true := by
  cases x with
  | plain load byte mode o => cases hload; cases o <;> cases mode <;> cases byte <;> rfl
  | half op p w o => cases op <;> cases hload; cases o <;> rfl

/-- A base that is written back is not R15 (R205). -/
theorem base_ne_15_of_wf {x : Single} {c : Cond} {u : Bool} {rn rd : RegNum} (h : (x.instr c u rn rd).wf = true)
    (hwb : x.writesBack = true) : rn ≠ 15 := by
  have hoff : offsetCheck x rn rd = none := by
    rw [← singleCheck_eq_none] at h
    unfold singleCheck at h
    split at h
    · exact h
    · exact h
    · exact (notR15_eq_none.1 h).2
    · exact (notR15_eq_none.1 (halfForm_eq_none.1 h).2).2
  obtain ⟨hbase, -⟩ := offsetCheck_eq_none.1 hoff
  simp only [baseOk, hwb, Bool.not_true, Bool.false_or, Bool.and_eq_true, decide_eq_true_eq] at hbase
  exact hbase.2

theorem Effect.singleBase {x : Single} {c : Cond} {u : Bool} {rn rd : RegNum} (s v : State)
    (h : (x.instr c u rn rd).wf = true) (i : Instr) :
    Effect i v (v.writeBase rn (singleAddressing x u rn s).writeBack) := by
  cases hwb : x.writesBack with
  | true => exact .writeBase i v (.inl (base_ne_15_of_wf h hwb))
  | false => exact .writeBase i v (.inr (by simp [singleAddressing, hwb]))

theorem canBecome_abortTransfer {i : Instr} {s t : State} {rn : RegNum} {b : Option Word}
    (hbase : Effect i s (s.writeBase rn b)) (h : s.abortTransfer rn b = .next t) : CanBecome i s t := by
  unfold State.abortTransfer at h
  split at h
  · exact .of_trap hbase (by simp) (by simp) h
  · exact .of_trap (.refl _ s) (by simp) rfl h

theorem canBecome_single {x : Single} {c : Cond} {u : Bool} {rn rd : RegNum} {s t : State}
    (hwf : (x.instr c u rn rd).wf = true) (h : singleBody x u rn rd s = .next t) :
    CanBecome (x.instr c u rn rd) s t := by
  have hbase (v : State) := Effect.singleBase s v hwf (x.instr c u rn rd)
  unfold singleBody at h
  split at h
  next hload =>
    unfold State.load at h
    split at h
    · cases h
    · exact canBecome_abortTransfer (hbase s) h
    · split at h
      next h15 =>
        subst h15
        exact .of_branchTo (hbase s) (mayWritePc_single hload hwf) h
      next hrd => exact .of_advance ((hbase s).trans (.writeReg _ _ hrd _)) h
  next hload =>
    unfold State.storeReg at h
    split at h
    · cases h
    · exact canBecome_abortTransfer (hbase s) h
    next hw =>
      obtain ⟨-, -, rfl⟩ := State.memWrite_ok.1 hw
      have hstore := Effect.store s x.size (singleAddressing x u rn s).address (s.readReg rd)
        (mayWriteMemory_single (c := c) (u := u) (rn := rn) (rd := rd) (Bool.eq_false_of_not_eq_true hload))
      exact .of_advance (hstore.trans (hbase _)) h

/-! ### Block transfers -/

theorem mayWritePc_ldm (k : BlockMode) (c : Cond) (caret w : Bool) (rn : RegNum) (list : BitVec 16) :
    mayWritePc (ldm k c caret w rn list) = list.getLsbD 15 := by
  cases k <;> rfl

theorem mayWriteFlags_ldm (k : BlockMode) (c : Cond) (caret w : Bool) (rn : RegNum) (list : BitVec 16) :
    mayWriteFlags (ldm k c caret w rn list) = (caret && list.getLsbD 15) := by
  cases k <;> rfl

theorem mayWriteMemory_stm (k : BlockMode) (c : Cond) (caret w : Bool) (rn : RegNum) (list : BitVec 16) :
    mayWriteMemory (stm k c caret w rn list) = true := by
  cases k <;> rfl

theorem Effect.writeRegs (i : Instr) (s : State) (user : Bool) (vals : List (RegNum × Word)) :
    Effect i s (s.writeRegs user vals) := by
  induction vals generalizing s with
  | nil => exact .refl i s
  | cons e rest ih =>
    obtain ⟨r, v⟩ := e
    simp only [State.writeRegs]
    split
    · exact ih s
    next hr =>
      split
      · exact (Effect.writeUser i s hr v).trans (ih _)
      · exact (Effect.writeReg i s hr v).trans (ih _)

theorem Effect.writeDrawn (i : Instr) (s : State) (user : Bool) (k : Nat) {vals : List (RegNum × Word)}
    (h : ∀ e ∈ vals, e.1 ≠ 15) : Effect i s (s.writeDrawn user k vals) := by
  induction vals generalizing s k with
  | nil => exact .refl i s
  | cons e rest ih =>
    obtain ⟨r, v⟩ := e
    obtain ⟨hr, hrest⟩ := List.forall_mem_cons.1 h
    refine .trans ?_ (ih _ (k + 1) hrest)
    split
    · split
      · exact .writeUser i s hr v
      · exact .writeReg i s hr v
    · exact .refl i s

@[simp] theorem writeDrawn_cpsr (s : State) (user : Bool) (k : Nat) (vals : List (RegNum × Word)) :
    (s.writeDrawn user k vals).cpsr = s.cpsr := by
  induction vals generalizing s k with
  | nil => rfl
  | cons e rest ih =>
    rw [State.writeDrawn, ih]
    split
    · split <;> simp
    · rfl

/-- An LDM that aborts has read some of the registers of its list, the first of them, but not all. -/
theorem readMany_abort {s : State} {p : Bool} {a : Word} {rs : List RegNum} {vals : List (RegNum × Word)}
    (h : s.readMany p a rs = .abort vals) : ∃ r rest, rs = vals.map Prod.fst ++ r :: rest := by
  induction rs generalizing a vals with
  | nil => cases h
  | cons r rs ih =>
    simp only [State.readMany] at h
    split at h
    · cases h
    · cases h
      exact ⟨r, rs, rfl⟩
    · split at h
      · cases h
      next hrest =>
        cases h
        obtain ⟨r', rest, hrs⟩ := ih hrest
        exact ⟨r', rest, by simp [hrs]⟩
      · cases h

/-- R15 is last in a list, so it is among none of the registers that come before another one. -/
theorem not_mem_of_listed_eq_append {list : BitVec 16} {l rest : List RegNum} {r : RegNum}
    (h : listed list = l ++ r :: rest) : 15 ∉ l := by
  intro h15
  have hmem : (15 : RegNum) ∈ listed list := h ▸ List.mem_append_left _ h15
  have hlast := getLast?_listed (mem_listed.1 hmem)
  have hnodup := listed_nodup list
  rw [h] at hlast hnodup
  have htail : (15 : RegNum) ∈ r :: rest := by
    rw [List.getLast?_append_of_ne_nil _ (by simp)] at hlast
    exact List.mem_of_getLast? hlast
  exact (List.nodup_append.1 hnodup).2.2 15 h15 15 htail rfl

theorem pcWord_mem {vals : List (RegNum × Word)} {v : Word} (h : pcWord vals = some v) : 15 ∈ vals.map Prod.fst := by
  by_contra hn
  have hnone := pcWord_eq_none (pairs := vals) fun e he h15 => hn (h15 ▸ List.mem_map_of_mem he)
  rw [h] at hnone
  cases hnone

theorem base_ne_15_of_ldm_wf {k : BlockMode} {c : Cond} {caret w : Bool} {rn : RegNum} {list : BitVec 16}
    (h : (ldm k c caret w rn list).wf = true) : rn ≠ 15 := by
  simp only [wf_ldm, ldmOk, Bool.and_eq_true, decide_eq_true_eq] at h
  obtain ⟨⟨⟨hrn, -⟩, -⟩, -⟩ := h
  exact hrn

theorem canBecome_ldm {k : BlockMode} {c : Cond} {caret w : Bool} {rn : RegNum} {list : BitVec 16} {s t : State}
    (hwf : (ldm k c caret w rn list).wf = true) (h : s.loadMultiple k caret w rn list = .next t) :
    CanBecome (ldm k c caret w rn list) s t := by
  have hrn := base_ne_15_of_ldm_wf hwf
  unfold State.loadMultiple at h
  dsimp only at h
  split at h
  · cases h
  split at h
  · cases h
  next vals hread =>
    rw [regList_eq_listed] at hread
    obtain ⟨r, rest, hlist⟩ := readMany_abort hread
    have h15 : ∀ e ∈ vals, e.1 ≠ 15 := fun e he h =>
      not_mem_of_listed_eq_append hlist (h ▸ List.mem_map_of_mem he)
    unfold State.abortLoads at h
    have hdrawn := (Effect.writeDrawn (ldm k c caret w rn list) s (caret && !list.getLsbD 15) s.draws h15).trans
      (.setDraws _ _ (s.draws + vals.length))
    split at h
    · exact .of_trap (hdrawn.trans (.writeBase _ _ (.inl hrn))) (by simp) (by simp) h
    · exact .of_trap (hdrawn.trans (.writeReg _ _ hrn _)) (by simp) (by simp) h
  next vals hread =>
    obtain ⟨hfst, -⟩ := State.readMany_ok hread
    rw [regList_eq_listed] at hfst
    unfold State.finishLoads at h
    dsimp only at h
    split at h
    next v hpc =>
      have h15 : list.getLsbD 15 = true := by
        have hmem := pcWord_mem hpc
        rw [hfst, mem_listed] at hmem
        exact hmem
      have hregs := (Effect.writeRegs (ldm k c caret w rn list) s false vals).trans
        (.writeBase _ _ (b := if w then some (k.final (s.readReg rn) list) else none) (.inl hrn))
      have hmay : mayWritePc (ldm k c caret w rn list) = true := (mayWritePc_ldm ..).trans h15
      split at h
      next hcaret => exact .of_exceptionReturn hregs hmay (by simp [mayWriteFlags_ldm, hcaret, h15]) h
      next => exact .of_branchTo hregs hmay h
    next =>
      have hregs := (Effect.writeRegs (ldm k c caret w rn list) s caret vals).trans
        (.writeBase _ _ (b := if w then some (k.final (s.readReg rn) list) else none) (.inl hrn))
      split at h
      · exact .of_advanceUserBank hregs h
      · exact .of_advance hregs h

/-- The words of an STM that are stored, all of them or those before an abort. -/
theorem Effect.writeMany {i : Instr} {s t : State} {p : Bool} {a : Word} {vs : List Word}
    (hmem : mayWriteMemory i = true)
    (h : s.writeMany p a vs = .ok t ∨ s.writeMany p a vs = .abort t) : Effect i s t := by
  induction vs generalizing s a with
  | nil =>
    obtain h | h := h
    · cases h
      exact .refl i _
    · cases h
  | cons v vs ih =>
    simp only [State.writeMany] at h
    split at h
    · obtain h | h := h <;> cases h
    · obtain h | h := h <;> cases h
      exact .refl i _
    next hw =>
      obtain ⟨-, -, rfl⟩ := State.memWrite_ok.1 hw
      exact (Effect.store s .word a v hmem).trans (ih h)

theorem wf_stm (k : BlockMode) (c : Cond) (caret w : Bool) (rn : RegNum) (list : BitVec 16) :
    (stm k c caret w rn list).wf = (stmOk w rn list && userFormOk caret w list) := by
  cases k <;> rfl

theorem base_ne_15_of_stm_wf {k : BlockMode} {c : Cond} {caret w : Bool} {rn : RegNum} {list : BitVec 16}
    (h : (stm k c caret w rn list).wf = true) : rn ≠ 15 := by
  simp only [wf_stm, stmOk, Bool.and_eq_true, decide_eq_true_eq] at h
  obtain ⟨⟨⟨⟨hrn, -⟩, -⟩, -⟩, -⟩ := h
  exact hrn

theorem canBecome_stm {k : BlockMode} {c : Cond} {caret w : Bool} {rn : RegNum} {list : BitVec 16} {s t : State}
    (hwf : (stm k c caret w rn list).wf = true) (h : s.storeMultiple k caret w rn list = .next t) :
    CanBecome (stm k c caret w rn list) s t := by
  have hrn := base_ne_15_of_stm_wf hwf
  have hmem := mayWriteMemory_stm k c caret w rn list
  unfold State.storeMultiple at h
  dsimp only at h
  split at h
  · cases h
  split at h
  · cases h
  next u hwrite =>
    have hstored := Effect.writeMany hmem (.inr hwrite)
    have hcpsr : u.cpsr = s.cpsr := (congrArg State.cpsr (State.writeMany_frame (.inr hwrite)).1).trans rfl
    unfold State.abortStores at h
    split at h
    · exact .of_trap (hstored.trans (.writeBase _ _ (.inl hrn))) (by simp) (by simp [hcpsr]) h
    · exact .of_trap hstored (by simp) hcpsr h
  next u hwrite =>
    have hstored := (Effect.writeMany hmem (.inl hwrite)).trans
      (.writeBase _ _ (b := if w then some (k.final (s.readReg rn) list) else none) (.inl hrn))
    split at h
    · exact .of_advanceUserBank hstored h
    · exact .of_advance hstored h

/-! ### Branches, status registers, traps -/

theorem canBecome_branch {link : Bool} {c : Cond} {imm24 : BitVec 24} {s t : State}
    (h : branchBody link imm24 s = .next t) : CanBecome (branchInstr link c imm24) s t := by
  unfold branchBody at h
  cases link with
  | true => exact .of_branchTo (.writeReg _ s (r := 14) (by decide) (s.pc + 4)) rfl h
  | false => exact .of_branchTo (.refl _ s) rfl h

theorem canBecome_bx {c : Cond} {rm : RegNum} {s t : State} (h : bxBody rm s = .next t) : CanBecome (.bx c rm) s t := by
  unfold bxBody at h
  split at h
  · cases h
  split at h
  · cases h
  refine .of_branchTo ?_ rfl h
  exact { Effect.refl _ s with
    thumb := .inr rfl
    flags := fun _ => ⟨rfl, rfl, rfl, rfl⟩
    mode := .inl rfl
    user := fun _ => { UserFrame.refl s with } }

theorem ne_15_of_noR15 {r : RegNum} (h : noR15 [r] = true) : r ≠ 15 := by simpa [noR15] using h

theorem canBecome_mrs {c : Cond} {spsr : Bool} {rd : RegNum} {s t : State} (hrd : rd ≠ 15)
    (h : mrsBody spsr rd s = .next t) : CanBecome (.mrs c spsr rd) s t := by
  unfold mrsBody at h
  split at h
  · exact .of_advance (.writeReg _ s hrd _) h
  · cases h

theorem mayWriteFlags_msr (x : MsrSource) (c : Cond) (spsr : Bool) (mask : BitVec 4) :
    mayWriteFlags (x.instr c spsr mask) = (!spsr && mask.getLsbD 3) := by
  cases x <;> rfl

/-- The selected fields are those of the claims (R273). -/
theorem withFields_eq_maskedPsr (p : Psr) (mask : BitVec 4) (control : Bool) (v : Word) :
    p.withFields mask control v = maskedPsr p (mask.getLsbD 3) (mask.getLsbD 0 && control) v := by
  have hm : v.extractLsb' 0 5 = v.setWidth 5 := by simp [BitVec.setWidth_eq_extractLsb']
  cases h3 : mask.getLsbD 3 <;> cases h0 : mask.getLsbD 0 && control <;>
    simp only [Psr.withFields, maskedPsr, Psr.ofWord, h3, h0, hm, Bool.false_eq_true, if_false, if_true]

theorem withFields_flags (p : Psr) {mask : BitVec 4} (control : Bool) (v : Word) (h : mask.getLsbD 3 = false) :
    (p.withFields mask control v).n = p.n ∧ (p.withFields mask control v).z = p.z ∧
      (p.withFields mask control v).c = p.c ∧ (p.withFields mask control v).v = p.v := by
  simp only [withFields_eq_maskedPsr, maskedPsr, h, Bool.false_eq_true, if_false, and_self]

/-- Without the control field only the flags change. -/
theorem withFields_control (p : Psr) {mask : BitVec 4} {control : Bool} (v : Word)
    (h : (mask.getLsbD 0 && control) = false) :
    (p.withFields mask control v).i = p.i ∧ (p.withFields mask control v).f = p.f ∧
      (p.withFields mask control v).t = p.t ∧ (p.withFields mask control v).m = p.m := by
  simp only [withFields_eq_maskedPsr, maskedPsr, h, Bool.false_eq_true, if_false, and_self]

theorem withFields_tm (p : Psr) {mask : BitVec 4} {control : Bool} (v : Word)
    (h : (mask.getLsbD 0 && control) = true) :
    (p.withFields mask control v).t = (Psr.ofWord v).t ∧ (p.withFields mask control v).m = (Psr.ofWord v).m := by
  simp only [Psr.withFields, h, if_true, and_self]

theorem canBecome_writeCpsr {x : MsrSource} {c : Cond} {mask : BitVec 4} {v : Word} {s t : State}
    (h : s.writeCpsr mask v = .next t) : CanBecome (x.instr c false mask) s t := by
  have hflags (control : Bool) (hi : mayWriteFlags (x.instr c false mask) = false) :=
    withFields_flags s.cpsr control v (by simpa [mayWriteFlags_msr] using hi)
  unfold State.writeCpsr at h
  split at h
  next hcontrol =>
    rw [Bool.and_eq_true] at hcontrol
    obtain ⟨h0, hpriv⟩ := hcontrol
    obtain ⟨hthumb, hmode⟩ := withFields_tm s.cpsr (mask := mask) (control := true) v (by simpa using h0)
    split at h
    · cases h
    next ht =>
      split at h
      · cases h
      next hm =>
        refine .of_advance (u := { s with cpsr := s.cpsr.withFields mask true v }) ?_ h
        exact { Effect.refl _ s with
          flags := hflags true
          thumb := .inl (hthumb.trans (by simpa using ht))
          mode := .inr (by simpa [Psr.mode, hmode, Option.isSome_iff_ne_none] using hm)
          user := fun hu => absurd (hu.symm.trans hpriv) (by decide) }
  next =>
    obtain ⟨hi, hf, ht, hm⟩ := withFields_control s.cpsr (mask := mask) (control := false) v (by simp)
    refine .of_advance (u := { s with cpsr := s.cpsr.withFields mask false v }) ?_ h
    exact { Effect.refl _ s with
      flags := hflags false
      thumb := .inl ht
      mode := .inl hm
      user := fun _ => { UserFrame.refl s with m := hm, i := hi, f := hf } }

theorem Effect.setSpsr (i : Instr) (s : State) (m : Mode) (p : Psr) (h : s.privileged = true) :
    Effect i s (s.setSpsr m p) where
  pc := by simp
  platform := by simp
  lines := by simp
  flags _ := by simp
  memory _ := by simp
  wf hs := by simpa using hs
  records _ he := .inl (by simpa using he)
  thumb := by simp
  mode := by simp
  user hu := absurd (hu.symm.trans h) (by decide)

/-- A mode with an SPSR is privileged (R46). -/
theorem privileged_of_spsr {s : State} {p : Psr} (h : s.spsr = some p) : s.privileged = true := by
  by_contra hn
  rw [s.spsr_user (Bool.eq_false_of_not_eq_true hn)] at h
  cases h

theorem canBecome_writeSpsr {i : Instr} {mask : BitVec 4} {v : Word} {s t : State}
    (h : s.writeSpsr mask v = .next t) : CanBecome i s t := by
  unfold State.writeSpsr at h
  split at h
  next hspsr =>
    split at h
    · cases h
    · exact .of_advance (.setSpsr i s _ _ (privileged_of_spsr hspsr)) h
  · cases h

theorem canBecome_msr {x : MsrSource} {c : Cond} {spsr : Bool} {mask : BitVec 4} {v : Word} {s t : State}
    (h : s.writePsr spsr mask v = .next t) : CanBecome (x.instr c spsr mask) s t := by
  cases spsr with
  | true => exact canBecome_writeSpsr h
  | false => exact canBecome_writeCpsr h

theorem canBecome_coprocessor {i : Instr} {cp : BitVec 4} {s t : State} (h : s.coprocessor cp = .next t) :
    CanBecome i s t := by
  unfold State.coprocessor at h
  split at h
  · cases h
  · exact .of_trap (.refl i s) (by simp) rfl h

/-! ### All instructions -/

/-- Where an instruction answers a next state, that is one of the states it can make of the state before. -/
theorem canBecome_of_exec {i : Instr} {s t : State} (h : exec i s = .next t) : CanBecome i s t := by
  have split_frame {named : List RegNum} {body : State → Out} (hi : Framed i named body)
      (hbody : i.wf = true → body s = .next t → CanBecome i s t) : CanBecome i s t := by
    obtain hskip | ⟨hwf, hnext⟩ := hi.next h
    · exact .of_advance (.refl i s) hskip
    · exact hbody hwf hnext
  induction i using instr_cases with
  | dp op o c flags rn rd => exact split_frame (framed_dp op o c flags rn rd) canBecome_dp
  | cmp op o c rn sbz => exact split_frame (framed_cmp op o c rn sbz) fun _ => canBecome_cmp
  | mul c flags rd sbz rs rm =>
    exact split_frame (framed_mul c flags rd sbz rs rm) fun hwf => canBecome_mul rfl (mul_ne_15_of_wf hwf)
  | mla c flags rd rn rs rm =>
    exact split_frame (framed_mla c flags rd rn rs rm) fun hwf => canBecome_mul rfl (mla_ne_15_of_wf hwf)
  | long op c flags rdHi rdLo rs rm =>
    refine split_frame (framed_long op c flags rdHi rdLo rs rm) fun hwf => ?_
    obtain ⟨hhi, hlo⟩ := long_ne_15_of_wf hwf
    exact canBecome_long (by cases op <;> rfl) hhi hlo
  | single x c u rn rd => exact split_frame (framed_single x c u rn rd) canBecome_single
  | ldm k c caret w rn list => exact split_frame (framed_ldm k c caret w rn list) canBecome_ldm
  | stm k c caret w rn list => exact split_frame (framed_stm k c caret w rn list) canBecome_stm
  | swap byte c rn rd rm =>
    exact split_frame (framed_swap byte c rn rd rm) fun hwf => canBecome_swap (swap_ne_15_of_wf hwf)
  | branch link c imm24 => exact split_frame (framed_branch link c imm24) fun _ => canBecome_branch
  | bx c rm => exact split_frame (framed_bx c rm) fun _ => canBecome_bx
  | mrs c spsr rd => exact split_frame (framed_mrs c spsr rd) fun hwf => canBecome_mrs (ne_15_of_noR15 hwf)
  | msr x c spsr mask => exact split_frame (framed_msr x c spsr mask) fun _ => canBecome_msr
  | swi c number => exact split_frame (framed_swi c number) fun _ => .of_trap (.refl _ s) (by simp) rfl
  | undefined c hi lo => exact split_frame (framed_undefined c hi lo) fun _ => .of_trap (.refl _ s) (by simp) rfl
  | coprocessor i cp hcp => exact split_frame (framed_coprocessor hcp) fun _ => canBecome_coprocessor

end Sys2Proof.Proofs
end

section
/-! PROOFS. The boundary, the exceptions and the whole machine (`60_exceptions.md`, `70_reset_and_hazards.md`). -/

namespace Sys2Proof.Proofs

open Sys2Proof.Machine Sys2Proof.Claims

/-! ### Exception entry -/

theorem excRow_mode (e : Exc) : (excRow e).1 = e.mode.bits := by cases e <;> rfl

theorem excRow_vector (e : Exc) : (excRow e).2 = e.vector := by cases e <;> rfl

@[simp] theorem takeException_cpsr_i (s : State) (e : Exc) : (s.takeException e).cpsr.i = true := by
  unfold State.takeException
  split <;> rfl

/-- Every exception but Reset keeps the flags and saves the CPSR (R310). -/
theorem takeException_of_ne_reset (s : State) {e : Exc} (he : e ≠ .reset) :
    s.takeException e =
      { s.setSpsr e.mode s.cpsr with
        cpsr := e.entryPsr s.cpsr
        regs := s.regs.set (bankR14 e.mode.bits) (e.returnAddress s.pc)
        pc := e.vector
        stale := []
        afterUserBank := false } := if_neg he

theorem takeException_cpsr (s : State) {e : Exc} (he : e ≠ .reset) : (s.takeException e).cpsr = e.entryPsr s.cpsr := by
  rw [takeException_of_ne_reset s he]

theorem savedPsr_takeException (s : State) {e : Exc} (he : e ≠ .reset) : savedPsr (s.takeException e) e = s.cpsr := by
  rw [takeException_of_ne_reset s he]
  cases e <;> rfl

/-- The SPSRs of the other modes are as before. -/
theorem savedPsr_takeException_other (s : State) {e e' : Exc} (he : e ≠ .reset) (h : e'.mode ≠ e.mode) :
    savedPsr (s.takeException e) e' = savedPsr s e' := by
  rw [takeException_of_ne_reset s he]
  cases e <;> cases e' <;> first | rfl | exact absurd rfl h

/-- The link register of an exception is R14 of the bank of its mode. -/
theorem linkReg_eq_bankR14 (e : Exc) : linkReg e = bankR14 e.mode.bits := by cases e <;> rfl

theorem linkValue_eq_returnAddress (e : Exc) (pc : Word) : linkValue e pc = e.returnAddress pc := by cases e <;> rfl

/-- Writing an SPSR changes nothing but the five SPSRs. -/
theorem setSpsr_eq (s : State) (m : Mode) (p : Psr) :
    s.setSpsr m p =
      { s with
        spsrSvc := (s.setSpsr m p).spsrSvc
        spsrAbt := (s.setSpsr m p).spsrAbt
        spsrUnd := (s.setSpsr m p).spsrUnd
        spsrIrq := (s.setSpsr m p).spsrIrq
        spsrFiq := (s.setSpsr m p).spsrFiq } := by
  cases m <;> rfl

theorem entryPsr_of_ne_reset {e : Exc} (he : e ≠ .reset) (p : Psr) :
    e.entryPsr p = { p with i := true, f := p.f || decide (e = .fiq), t := false, m := (excRow e).1 } := by
  simp [Exc.entryPsr, he, excRow_mode, Bool.or_comm]

/-- Settles O47: the entry is one update of the state, read field by field. -/
theorem exceptionEntry : Obligations.ExceptionEntry := by
  unfold Obligations.ExceptionEntry
  intro s e
  rw [excRow_mode, excRow_vector]
  refine ⟨by simp, by simp, by simp, by simp, ?_, fun he => ⟨?_, savedPsr_takeException s he, fun e' hne => ?_, ?_⟩⟩
  · rintro (rfl | rfl) <;> rfl
  · rw [takeException_cpsr s he, entryPsr_of_ne_reset he, excRow_mode]
  · rw [excRow_mode] at hne
    exact savedPsr_takeException_other s he fun h => hne (by rw [h])
  · rw [linkReg_eq_bankR14, linkValue_eq_returnAddress, takeException_of_ne_reset s he]
    cases e <;> rfl

/-! ### The boundary -/

/-- In ARM state the boundary decides by the sample of the lines (R43, R305). -/
theorem boundary_eq_arbitrate {s : State} (ht : s.cpsr.t = false) :
    s.boundary = (afterSample s).arbitrate (s.lines.headD Lines.idle) := by
  simp [State.boundary, ht, sample_eq]

/-- Settles O9: the branches of `State.arbitrate` are the statement's, and the idle sample leaves only the fetch. -/
theorem boundaryPriority : Obligations.BoundaryPriority := by
  unfold Obligations.BoundaryPriority
  rintro s l rest ht rfl rfl
  have hidle : ({ s with lines := Lines.idle :: s.lines.tail } : State).boundary =
      (afterSample s).arbitrate Lines.idle :=
    boundary_eq_arbitrate ht
  have hboundary := boundary_eq_arbitrate ht
  have haborts : (afterSample s).aborts (afterSample s).pc 4 .fetch (afterSample s).privileged =
      s.aborts s.pc 4 .fetch s.privileged := rfl
  have hcpsr : (afterSample s).cpsr = s.cpsr := rfl
  unfold step
  rw [hboundary, hidle]
  unfold State.arbitrate
  rw [haborts, hcpsr]
  generalize s.lines.headD Lines.idle = l
  by_cases hreset : l.reset = true
  · rw [if_pos hreset, if_pos hreset]
    rfl
  by_cases hfiq : l.fiq = true ∧ s.cpsr.f = false
  · rw [if_neg hreset, if_neg hreset, if_pos hfiq, if_pos (by simp [hfiq])]
    rfl
  by_cases hirq : l.irq = true ∧ s.cpsr.i = false
  · rw [if_neg hreset, if_neg hreset, if_neg hfiq, if_neg (by simpa using hfiq), if_pos hirq, if_pos (by simp [hirq])]
    rfl
  rw [if_neg hreset, if_neg hreset, if_neg hfiq, if_neg (by simpa using hfiq), if_neg hirq,
    if_neg (by simpa using hirq)]
  by_cases habort : s.aborts s.pc 4 .fetch s.privileged = true
  · rw [if_pos habort, if_pos habort]
    rfl
  · simp [habort, Lines.idle]

/-- Settles O49: Reset comes first at the boundary, and its entry keeps memory. -/
theorem resetAtBoundary : Obligations.ResetAtBoundary := by
  unfold Obligations.ResetAtBoundary
  intro s l rest ht hlines hreset
  have hstep := boundaryPriority s l rest ht (by simp [hlines]) (by simp [hlines])
  rw [if_pos hreset] at hstep
  exact ⟨_, hstep, by simp [Exc.vector], by simp [Exc.mode, Mode.bits], by simp, rfl, by simp, by simp, by simp⟩

/-- Settles O7: the reset state is the one at address 0 in svc mode with an empty memory. -/
theorem resetHasInvariant : Obligations.ResetHasInvariant := by
  unfold Obligations.ResetHasInvariant
  decide

/-! ### The fetch -/

/-- With no record of a store to the word at the PC, the fetch uses none up (R79). -/
theorem afterFetch_of_no_record {s : State} (h : ∀ e ∈ s.stale, e.addr ≠ s.pc) : s.afterFetch = s := by
  have hkept : (s.stale.filter fun e => decide (e.addr ≠ s.pc)) = s.stale :=
    List.filter_eq_self.2 fun e he => by simpa using h e he
  have hmissed : s.missed = [] := by simpa [State.missed] using h
  rw [State.afterFetch, hkept, hmissed]
  rfl

theorem misaligned_afterSample {s : State} (h : s.pcAligned = true) :
    Size.word.misaligned (afterSample s).pc = false :=
  (misaligned_pc_eq s).trans (by simp [h])

/-- The boundary at which nothing is due runs the instruction of the word that the fetch returns. -/
theorem boundary_of_fetchedWord {s : State} (h : NothingDue s) {w : Word} {i : Instr} (hw : s.fetchedWord = some w)
    (hd : decode w = .ok i) : s.boundary = .run i (afterSample s).afterFetch := by
  have hboundary := boundary_of_nothingDue h
  obtain ⟨-, haligned, -⟩ := h
  have hpc := misaligned_afterSample haligned
  have hfetched : (afterSample s).fetchedWord = some w := hw
  simp [hboundary, State.fetch, hpc, hfetched, hd]

/-- Settles O5: the boundary is a fetch of the word, and with no record of it the state is the sampled one. -/
theorem stepRunsDecoded : Obligations.StepRunsDecoded := by
  unfold Obligations.StepRunsDecoded
  rintro s w i ⟨hdue, hrecord, hword⟩ hd
  have hboundary := boundary_of_fetchedWord hdue ((fetchedWord_of_no_record hrecord).trans hword) hd
  have hafter : (afterSample s).afterFetch = afterSample s := afterFetch_of_no_record hrecord
  simp [step, hboundary, hafter]

/-- Settles O57: the fetched word is skipped, and the skip is `State.advance` on the sampled state. -/
theorem unallocatedWordSkips : Obligations.UnallocatedWordSkips := by
  unfold Obligations.UnallocatedWordSkips
  intro s w h hd hc
  obtain ⟨hboundary, hpc, hfetched⟩ := boundary_of_fetches h
  obtain ⟨-, hrecord, -⟩ := h
  have hpass : (afterSample s).wordPasses w = false := (wordPasses_eq_conditionHolds (afterSample s) w).trans hc
  have hafter : (afterSample s).afterFetch = afterSample s := afterFetch_of_no_record hrecord
  have hskip : s.boundary = .skip (afterSample s) := by
    simp [hboundary, State.fetch, hpc, hfetched, hd, hpass, hafter]
  simp [step, hskip, State.advance, afterSample]

/-- The choice among the versions of a word is the one in memory or a recorded one. -/
theorem chooseFetched_mem (w : Option Word) (k : Nat) (l : List Stale) :
    chooseFetched w k l = w ∨ ∃ e ∈ l, chooseFetched w k l = e.old := by
  induction l generalizing w k with
  | nil => exact .inl rfl
  | cons e rest ih =>
    rw [chooseFetched]
    obtain h | ⟨e', he', h⟩ := ih (if Config.freeBit k then e.old else w) (k + 1)
    · rw [h]
      split
      · exact .inr ⟨e, List.mem_cons_self, rfl⟩
      · exact .inl rfl
    · exact .inr ⟨e', List.mem_cons_of_mem e he', h⟩

theorem fetchedWord_mem (s : State) :
    s.fetchedWord = s.wordAt s.pc ∨ ∃ e ∈ s.stale, e.addr = s.pc ∧ s.fetchedWord = e.old := by
  obtain h | ⟨e, he, h⟩ := chooseFetched_mem (s.wordAt s.pc) s.draws s.missed
  · exact .inl h
  · obtain ⟨hmem, haddr⟩ := List.mem_filter.1 he
    exact .inr ⟨e, hmem, by simpa using haddr, h⟩

theorem wordBase_eq (a : Word) : wordBase a = BitVec.ofNat 32 (a.toNat / 4 * 4) := and_pcMask_eq a

/-- Two addresses in one word agree but for bits [1:0]. -/
theorem div_four_of_wordBase_eq {a b : Word} (h : wordBase a = b) : a.toNat / 4 = b.toNat / 4 := by
  rw [wordBase_eq] at h
  have htoNat := congrArg BitVec.toNat h
  rw [BitVec.toNat_ofNat] at htoNat
  omega

theorem store_stale_of_other (s : State) (z : Size) (a v : Word) (h4 : a.toNat / 4 ≠ (s.pc + 4).toNat / 4)
    (h8 : a.toNat / 4 ≠ (s.pc + 8).toNat / 4) : (s.store z a v).stale = s.stale := by
  have hnot : ¬ (wordBase a = s.pc + 4 ∨ wordBase a = s.pc + 8) := by
    rintro (h | h)
    · exact h4 (div_four_of_wordBase_eq h)
    · exact h8 (div_four_of_wordBase_eq h)
  simp only [State.store, State.missedBy, if_neg hnot, List.append_nil]

theorem store_stale_of_follows (s : State) (z : Size) (a v : Word) (h : wordBase a = s.pc + 4 ∨ wordBase a = s.pc + 8) :
    (s.store z a v).stale = s.stale ++ [{ addr := wordBase a, old := s.wordAt (wordBase a) }] := by
  simp only [State.store, State.missedBy, if_pos h]

/-- Settles O10: `fetchedWord` chooses among the records of its word, `State.store` adds a record for two words alone,
and a step runs what the fetch returns. -/
theorem fetchMayMissStore : Obligations.FetchMayMissStore := by
  unfold Obligations.FetchMayMissStore
  refine ⟨fetchedWord_mem, fun s => fetchedWord_of_no_record, store_stale_of_other, ?_, ?_,
    fun s hdue => ⟨fun hw => ?_, ?_⟩⟩
  · rintro s z a v b - rfl hb
    rw [← wordBase_eq] at hb ⊢
    exact store_stale_of_follows s z a v hb
  · intro s v t h
    rw [State.branchTo_next h]
  · have hboundary := boundary_of_nothingDue hdue
    obtain ⟨-, haligned, -⟩ := hdue
    have hpc := misaligned_afterSample haligned
    have hfetched : (afterSample s).fetchedWord = none := hw
    have hstop : s.boundary = .stop (.unwritten s.pc) := by
      simp only [hboundary, State.fetch, hpc, hfetched, Bool.false_eq_true, if_false]
      rfl
    simp [step, hstop]
  · intro w i hw hd
    simp only [step, boundary_of_fetchedWord hdue hw hd]
    rfl

/-! ### A step -/

/-- The state in which the fetched instruction runs, with its records used up. -/
def fetched (s : State) : State := (afterSample s).afterFetch

/-- A step takes an exception at the boundary, or an instruction acts; a word that is skipped does what an instruction
does whose condition fails, so any will do for it. -/
theorem step_next_cases {s t : State} (h : step s = .next t) :
    s.cpsr.t = false ∧
      ((∃ e, t = (afterSample s).takeException e) ∨ s.pcAligned = true ∧ ∃ i, CanBecome i (fetched s) t) := by
  have aligned (hpc : Size.word.misaligned s.pc = false) : s.pcAligned = true := by
    simpa [misaligned_pc_eq] using hpc
  obtain henter | ⟨i, s', hrun, hexec⟩ | ⟨s', hskip, hadvance⟩ := step_next h
  · obtain ⟨ht, e, -, rfl⟩ := boundary_enter henter
    exact ⟨ht, .inl ⟨e, by rw [sample_eq]⟩⟩
  · obtain ⟨ht, rfl, hpc, -⟩ := boundary_run hrun
    rw [sample_eq] at hexec
    exact ⟨ht, .inr ⟨aligned hpc, i, canBecome_of_exec hexec⟩⟩
  · obtain ⟨ht, rfl, hpc, -⟩ := boundary_skip hskip
    rw [sample_eq] at hadvance
    exact ⟨ht, .inr ⟨aligned hpc, .swi .al 0, .of_advance (.refl _ _) hadvance⟩⟩

theorem pcAligned_of_mask {s : State} {v : Word} (h : s.pc = v &&& 0xFFFFFFFC) : s.pcAligned = true := by
  rw [and_pcMask_eq] at h
  simp only [State.pcAligned, h, BitVec.toNat_ofNat, decide_eq_true_eq]
  omega

theorem inv_iff (s : State) :
    s.inv = true ↔ s.pcAligned = true ∧ s.cpsr.t = false ∧ s.legalMode = true ∧ s.mem.wf = true := by
  simp [State.inv, and_assoc]

/-- An exception entry makes the invariant hold but for the memory, which it keeps. -/
theorem inv_takeException {s : State} (e : Exc) (h : s.mem.wf = true) : (s.takeException e).inv = true := by
  rw [inv_iff]
  refine ⟨?_, by simp, by simp [State.legalMode, Psr.mode], by simpa using h⟩
  rw [State.pcAligned, State.takeException_pc]
  cases e <;> rfl

/-- An instruction keeps the invariant. -/
theorem inv_of_canBecome {i : Instr} {s t : State} (hs : s.inv = true) (h : CanBecome i s t) : t.inv = true := by
  obtain ⟨u, heffect, hends⟩ := h
  obtain ⟨hpc, ht, hmode, hwf⟩ := (inv_iff s).1 hs
  have huwf := heffect.wf hwf
  have hut : u.cpsr.t = false := heffect.thumb.elim (·.trans ht) id
  have humode : u.cpsr.mode.isSome = true := heffect.mode.elim (fun hm => by rwa [Psr.mode, hm]) id
  cases hends with
  | advance bank hne =>
    refine (inv_iff _).2 ⟨?_, hut, humode, huwf⟩
    simp only [State.pcAligned, decide_eq_true_eq, ← heffect.pc] at hpc ⊢
    bv_omega
  | branch v => exact (inv_iff _).2 ⟨pcAligned_of_mask rfl, hut, humode, huwf⟩
  | back v p _ _ _ hpt hpm =>
    exact (inv_iff _).2 ⟨pcAligned_of_mask rfl, hpt, Option.isSome_iff_ne_none.2 hpm, huwf⟩
  | trap e => exact inv_takeException e huwf

/-- Settles O6: an exception entry and every instruction keep the invariant. -/
theorem stepKeepsInvariant : Obligations.StepKeepsInvariant := by
  unfold Obligations.StepKeepsInvariant
  intro s t hs h
  obtain ⟨-, ⟨e, rfl⟩ | ⟨-, i, hi⟩⟩ := step_next_cases h
  · obtain ⟨-, -, -, hwf⟩ := (inv_iff s).1 hs
    exact inv_takeException e hwf
  · have hfetched : (fetched s).inv = true := hs
    exact inv_of_canBecome hfetched hi

/-- Settles O11: the fetch uses up the records of the word at the PC, a store adds one for the two words that follow,
and going on moves them to the PC and the word after it. -/
theorem prefetchRecordsBounded : Obligations.PrefetchRecordsBounded := by
  unfold Obligations.PrefetchRecordsBounded
  intro s t hs h
  obtain ⟨-, ⟨e, rfl⟩ | ⟨-, i, u, heffect, hends⟩⟩ := step_next_cases h
  · simp [State.prefetchInv]
  cases hends with
  | branch | back => rfl
  | trap e => simp [State.prefetchInv]
  | advance bank hne =>
    have hpc : u.pc = s.pc := heffect.pc
    simp only [State.prefetchInv, List.all_eq_true, Bool.or_eq_true, decide_eq_true_eq] at hs ⊢
    intro e he
    have hnew : e.addr = s.pc + 4 ∨ e.addr = s.pc + 8 := by
      obtain hold | hnew := heffect.records e he
      · obtain ⟨hmem, haddr⟩ := List.mem_filter.1 hold
        exact .inl ((hs e hmem).resolve_left (of_decide_eq_true haddr))
      · exact hnew
    rw [hpc, BitVec.add_assoc]
    exact hnew

/-- Settles O56: neither an exception entry nor an instruction touches the platform or the lines; the boundary takes
one sample. -/
theorem platformNeverChanges : Obligations.PlatformNeverChanges := by
  unfold Obligations.PlatformNeverChanges
  intro s t h
  obtain ⟨-, ⟨e, rfl⟩ | ⟨-, i, u, heffect, hends⟩⟩ := step_next_cases h
  · exact ⟨by simp [afterSample], by simp [afterSample]⟩
  have hu : u.platform = s.platform ∧ u.lines = s.lines.tail := ⟨heffect.platform, heffect.lines⟩
  cases hends with
  | advance | branch | back => exact hu
  | trap e => simpa using hu

/-! ### User mode -/

theorem privileged_of_usr {s : State} (h : s.cpsr.m = 0b10000) : s.privileged = false := by
  simp [State.privileged, h, Mode.bits]

theorem takeException_m_ne_usr (s : State) (e : Exc) : (s.takeException e).cpsr.m ≠ 0b10000 := by
  rw [State.takeException_cpsr_m]
  cases e <;> decide

/-- In User mode the part of an instruction before its end keeps the privileged state, and the end is no
exception return. -/
theorem ends_of_usr {i : Instr} {s u t : State} (hm : s.cpsr.m = 0b10000) (heffect : Effect i s u)
    (hends : Ends i s u t) :
    (UserFrame s t ∧ t.cpsr = u.cpsr) ∨ ∃ e, t = u.takeException e ∧ u.cpsr = s.cpsr := by
  have hframe := heffect.user (privileged_of_usr hm)
  cases hends with
  | advance | branch => exact .inl ⟨{ hframe with }, rfl⟩
  | back v p _ _ hspsr =>
    have hpriv : u.privileged = false := (privileged_congr hframe.m).trans (privileged_of_usr hm)
    rw [u.spsr_user hpriv] at hspsr
    cases hspsr
  | trap e _ hcpsr => exact .inr ⟨e, rfl, hcpsr⟩

/-- Settles O51: a step that stays in usr mode enters no exception, and the instruction keeps the privileged state. -/
theorem userModeIsConfined : Obligations.UserModeIsConfined := by
  unfold Obligations.UserModeIsConfined
  intro s t hm h htm
  obtain ⟨ht, ⟨e, rfl⟩ | ⟨-, i, u, heffect, hends⟩⟩ := step_next_cases h
  · exact absurd htm (takeException_m_ne_usr _ e)
  have hfetched : (fetched s).cpsr.m = 0b10000 := hm
  obtain ⟨hframe, hcpsr⟩ | ⟨e, rfl, -⟩ := ends_of_usr hfetched heffect hends
  · have hthumb : t.cpsr.t = s.cpsr.t := by
      rw [hcpsr, ht]
      exact heffect.thumb.elim (·.trans ht) id
    exact ⟨hframe.cells, hframe.spsrSvc, hframe.spsrAbt, hframe.spsrUnd, hframe.spsrIrq, hframe.spsrFiq,
      hframe.i, hframe.f, hthumb⟩
  · exact absurd htm (takeException_m_ne_usr u e)

/-- Settles O52: the only end of a step that leaves usr mode is an exception entry, which saves the CPSR. -/
theorem userModeLeavesByException : Obligations.UserModeLeavesByException := by
  unfold Obligations.UserModeLeavesByException
  intro s t hm h htm
  have entered (u : State) (e : Exc) (hcpsr : u.cpsr = s.cpsr) :
      ∃ e', (u.takeException e).pc = (excRow e').2 ∧ (u.takeException e).cpsr.m = (excRow e').1 ∧
        (u.takeException e).cpsr.i = true ∧ (e' ≠ .reset → savedPsr (u.takeException e) e' = s.cpsr) :=
    ⟨e, by simp [excRow_vector], by simp [excRow_mode], by simp, fun he => (savedPsr_takeException u he).trans hcpsr⟩
  obtain ⟨-, ⟨e, rfl⟩ | ⟨-, i, u, heffect, hends⟩⟩ := step_next_cases h
  · exact entered (afterSample s) e rfl
  have hfetched : (fetched s).cpsr.m = 0b10000 := hm
  obtain ⟨hframe, -⟩ | ⟨e, rfl, hcpsr⟩ := ends_of_usr hfetched heffect hends
  · exact absurd (hframe.m.trans hm) htm
  · exact entered u e hcpsr

/-! ### What an instruction may change -/

theorem flags_takeException (s : State) {e : Exc} (he : e ≠ .reset) :
    (s.takeException e).cpsr.n = s.cpsr.n ∧ (s.takeException e).cpsr.z = s.cpsr.z ∧
      (s.takeException e).cpsr.c = s.cpsr.c ∧ (s.takeException e).cpsr.v = s.cpsr.v := by
  rw [takeException_cpsr s he]
  exact ⟨rfl, rfl, rfl, rfl⟩

/-- Settles O53: the part before the end keeps the flags, and of the ends only an exception return writes them. -/
theorem flagsWrittenOnlyByNamed : Obligations.FlagsWrittenOnlyByNamed := by
  unfold Obligations.FlagsWrittenOnlyByNamed
  intro i s t hi h
  obtain ⟨u, heffect, hends⟩ := canBecome_of_exec h
  have hflags := heffect.flags hi
  cases hends with
  | advance | branch => exact hflags
  | back v p _ hmay => exact absurd (hi.symm.trans hmay) (by decide)
  | trap e he =>
    have hne : e ≠ .reset := by rintro rfl; simp at he
    obtain ⟨hn, hz, hc, hv⟩ := flags_takeException u hne
    obtain ⟨kn, kz, kc, kv⟩ := hflags
    exact ⟨hn.trans kn, hz.trans kz, hc.trans kc, hv.trans kv⟩

/-- Settles O54: the part before the end keeps memory and the records, and an end at most discards the records. -/
theorem memoryWrittenOnlyByStores : Obligations.MemoryWrittenOnlyByStores := by
  unfold Obligations.MemoryWrittenOnlyByStores
  intro i s t hi h
  obtain ⟨u, heffect, hends⟩ := canBecome_of_exec h
  obtain ⟨hmem, hstale⟩ := heffect.memory hi
  cases hends with
  | advance => exact ⟨hmem, .inl hstale⟩
  | branch | back => exact ⟨hmem, .inr rfl⟩
  | trap e => exact ⟨by simpa using hmem, by simp⟩

/-- Settles O55: the ends left are going on and the three exceptions of an instruction. -/
theorem pcAdvancesOrTraps : Obligations.PcAdvancesOrTraps := by
  unfold Obligations.PcAdvancesOrTraps
  intro i s t hi h
  obtain ⟨u, heffect, hends⟩ := canBecome_of_exec h
  cases hends with
  | advance bank hne =>
    rw [heffect.pc] at hne
    exact .inl ⟨by rw [heffect.pc], hne⟩
  | branch v hmay | back v p hmay => exact absurd (hi.symm.trans hmay) (by decide)
  | trap e he => exact .inr ⟨e, he, by simp [excRow_vector], by simp [excRow_mode]⟩

end Sys2Proof.Proofs
end

section
/-! PROOFS. Registers, the barrel shifter, and stores (`10_state.md`, `20_memory.md`, `41_data_processing.md`). -/

namespace Sys2Proof.Proofs

open Sys2Proof.Machine Sys2Proof.Claims

/-! ### Registers -/

/-- Settles O16: the laws of the register file, with the mask of a PC write as a division (R33). -/
theorem registerAccess : Obligations.RegisterAccess := by
  unfold Obligations.RegisterAccess
  intro s v
  refine ⟨s.readReg_15, ?_, fun i hi => ⟨?_, s.readReg_writeReg hi v, fun q hq => ?_⟩⟩
  · rw [← and_pcMask_eq]
    exact s.writeReg_15 v
  · rw [s.writeReg_of_ne v hi]
  · rw [s.writeReg_of_ne v hi, Regs.get_write, if_neg hq]

/-! ### The barrel shifter, bit by bit -/

theorem getLsbD_rotateRight_word (m : Word) (n : Nat) {i : Nat} (hi : i < 32) :
    (m.rotateRight n).getLsbD i = m.getLsbD ((i + n) % 32) := by
  rw [BitVec.getLsbD_rotateRight]
  by_cases h : i < 32 - n % 32
  · have hsum : n % 32 + i = (i + n) % 32 := by omega
    simp [h, hsum]
  · have hdiff : i - (32 - n % 32) = (i + n) % 32 := by omega
    simp [h, hi, hdiff]

theorem getLsbD_shiftLeft_word (m : Word) (n : Nat) {i : Nat} (hi : i < 32) :
    (m <<< n).getLsbD i = (decide (n ≤ i) && m.getLsbD (i - n)) := by
  rw [BitVec.getLsbD_shiftLeft]
  simp only [hi, decide_true, Bool.true_and, ← decide_not, Nat.not_lt]

theorem getLsbD_ushiftRight_word (m : Word) (n i : Nat) : (m >>> n).getLsbD i = m.getLsbD (i + n) := by
  rw [BitVec.getLsbD_ushiftRight, Nat.add_comm]

theorem getLsbD_sshiftRight_word (m : Word) (n : Nat) {i : Nat} (hi : i < 32) :
    (m.sshiftRight n).getLsbD i = if i + n < 32 then m.getLsbD (i + n) else m.getLsbD 31 := by
  rw [BitVec.getLsbD_sshiftRight, Nat.add_comm, BitVec.msb_eq_getLsbD_last]
  simp [hi]

/-- Settles O17: the value is a rotation of the extended imm8, and bit 31 is its sign. -/
theorem rotatedImmediate : Obligations.RotatedImmediate := by
  unfold Obligations.RotatedImmediate
  intro rotate imm8 c
  refine ⟨fun i hi => getLsbD_rotateRight_word _ _ hi, ?_⟩
  simp only [immOperand, BitVec.msb_eq_getLsbD_last]

/-- RRX: C enters at bit 31, and the other bits move down by one (R143). -/
theorem getLsbD_rrx (m : Word) (c : Bool) {i : Nat} (hi : i < 32) :
    (BitVec.ofBool c ++ m.extractLsb' 1 31).getLsbD i = if i = 31 then c else m.getLsbD (i + 1) := by
  rw [BitVec.getLsbD_append, BitVec.getLsbD_ofBool, BitVec.getLsbD_extractLsb']
  by_cases h : i = 31
  · simp [h]
  · have hlt : i < 31 := by omega
    simp [h, hlt, Nat.add_comm]

/-- Settles O18: for amount 0 the row of its own of each kind, and otherwise the shift. -/
theorem shiftByImmediate : Obligations.ShiftByImmediate := by
  unfold Obligations.ShiftByImmediate
  intro m n c
  by_cases hn : n = 0
  · subst hn
    refine ⟨fun i hi => ⟨by simp [shiftByImm], by simp [shiftByImm], ?_, ?_⟩, ?_⟩
    · simpa [shiftByImm] using getLsbD_sshiftRight_word m 32 hi
    · simpa [shiftByImm] using getLsbD_rrx m c hi
    · simp [shiftByImm, BitVec.msb_eq_getLsbD_last]
  · have hnat : n.toNat ≠ 0 := fun h => hn (BitVec.eq_of_toNat_eq h)
    have hlit : ¬ n = 0#5 := hn
    refine ⟨fun i hi => ⟨?_, ?_, ?_, ?_⟩, ?_⟩
    · simpa only [shiftByImm, if_neg hnat] using getLsbD_shiftLeft_word m n.toNat hi
    · simpa only [shiftByImm, if_neg hnat, ne_eq, hn, not_false_eq_true, decide_true, Bool.true_and]
        using getLsbD_ushiftRight_word m n.toNat i
    · simpa only [shiftByImm, if_neg hnat, hn, ne_eq, not_false_eq_true, true_and]
        using getLsbD_sshiftRight_word m n.toNat hi
    · simpa only [shiftByImm, if_neg hnat, hn, ne_eq, not_false_eq_true, if_true]
        using getLsbD_rotateRight_word m n.toNat hi
    · simp [shiftByImm, hnat, hlit]

/-- The value of a shift by a register whose bottom byte is not 0 (R144). -/
theorem getLsbD_shiftByReg (k : ShiftKind) (m : Word) {n : BitVec 8} (c : Bool) (hn : n.toNat ≠ 0) {i : Nat}
    (hi : i < 32) :
    (shiftByReg k m n c).value.getLsbD i =
      match k with
      | .lsl => decide (n.toNat ≤ i) && m.getLsbD (i - n.toNat)
      | .lsr => decide (i + n.toNat < 32) && m.getLsbD (i + n.toNat)
      | .asr => if i + n.toNat < 32 then m.getLsbD (i + n.toNat) else m.getLsbD 31
      | .ror => m.getLsbD ((i + n.toNat) % 32) := by
  cases k with
  | lsl =>
    by_cases hlt : n.toNat < 32
    · simpa [shiftByReg, hn, hlt] using getLsbD_shiftLeft_word m n.toNat hi
    · have hgt : ¬ n.toNat ≤ i := by omega
      simp only [shiftByReg, if_neg hn, if_neg hlt, hgt, decide_false, Bool.false_and]
      split <;> exact BitVec.getLsbD_zero
  | lsr =>
    by_cases hlt : n.toNat < 32
    · by_cases hsum : i + n.toNat < 32
      · simpa [shiftByReg, hn, hlt, hsum] using getLsbD_ushiftRight_word m n.toNat i
      · have hout : m.getLsbD (i + n.toNat) = false := BitVec.getLsbD_of_ge m _ (by omega)
        simpa [shiftByReg, hn, hlt, hout] using getLsbD_ushiftRight_word m n.toNat i
    · have hsum : ¬ i + n.toNat < 32 := by omega
      by_cases h32 : n.toNat = 32 <;> simp [shiftByReg, hn, hlt, h32, hsum]
  | asr =>
    by_cases hlt : n.toNat < 32
    · simpa only [shiftByReg, if_neg hn, if_pos hlt] using getLsbD_sshiftRight_word m n.toNat hi
    · have hsum : ¬ i + n.toNat < 32 := by omega
      have h32 : ¬ i + 32 < 32 := by omega
      simpa only [shiftByReg, if_neg hn, if_neg hlt, if_neg hsum, if_neg h32] using getLsbD_sshiftRight_word m 32 hi
  | ror =>
    by_cases hmod : n.toNat % 32 = 0
    · have hsame : (i + n.toNat) % 32 = i := by omega
      simp only [shiftByReg, if_neg hn, if_pos hmod, hsame]
    · have hsame : (i + n.toNat % 32) % 32 = (i + n.toNat) % 32 := by omega
      simpa only [shiftByReg, if_neg hn, if_neg hmod, hsame] using getLsbD_rotateRight_word m (n.toNat % 32) hi

/-- The carry-out of a shift by a register whose bottom byte is not 0 (R144). -/
theorem carry_shiftByReg (k : ShiftKind) (m : Word) {n : BitVec 8} (c : Bool) (hn : n.toNat ≠ 0) :
    (shiftByReg k m n c).carry =
      match k with
      | .lsl => decide (n.toNat ≤ 32) && m.getLsbD (32 - n.toNat)
      | .lsr => decide (n.toNat ≤ 32) && m.getLsbD (n.toNat - 1)
      | .asr => if n.toNat ≤ 32 then m.getLsbD (n.toNat - 1) else m.getLsbD 31
      | .ror => m.getLsbD ((n.toNat - 1) % 32) := by
  obtain hlt | heq | hgt := Nat.lt_trichotomy n.toNat 32
  · have hle : n.toNat ≤ 32 := hlt.le
    have hmod : n.toNat % 32 = n.toNat := Nat.mod_eq_of_lt hlt
    have hpred : (n.toNat - 1) % 32 = n.toNat - 1 := Nat.mod_eq_of_lt (by omega)
    cases k <;> simp [shiftByReg, hn, hlt, hle, hmod, hpred]
  · cases k <;> simp [shiftByReg, heq, BitVec.msb_eq_getLsbD_last]
  · have hlt : ¬ n.toNat < 32 := by omega
    have hne : n.toNat ≠ 32 := by omega
    have hle : ¬ n.toNat ≤ 32 := by omega
    cases k with
    | lsl | lsr => simp [shiftByReg, hn, hlt, hne, hle]
    | asr => simp [shiftByReg, hn, hlt, hle, BitVec.msb_eq_getLsbD_last]
    | ror =>
      by_cases hmod : n.toNat % 32 = 0
      · have hpred : (n.toNat - 1) % 32 = 31 := by omega
        simp only [shiftByReg, if_neg hn, if_pos hmod, hpred, BitVec.msb_eq_getLsbD_last]
      · have hpred : (n.toNat - 1) % 32 = n.toNat % 32 - 1 := by omega
        simp only [shiftByReg, if_neg hn, if_neg hmod, hpred]

/-- Settles O19: the table of R144, row by row, below 32, at 32 and above. -/
theorem shiftByRegister : Obligations.ShiftByRegister := by
  unfold Obligations.ShiftByRegister
  intro k m n c
  refine ⟨fun hn => by simp [shiftByReg, hn], fun hn => ?_⟩
  have hnat : n.toNat ≠ 0 := fun h => hn (BitVec.eq_of_toNat_eq h)
  constructor
  · exact fun i hi => (getLsbD_shiftByReg k m c hnat hi).trans (by cases k <;> rfl)
  · exact (carry_shiftByReg k m c hnat).trans (by cases k <;> rfl)

/-! ### Stores -/

theorem ofNat_div_eq_extractLsb' (v : Word) (j : Nat) : BitVec.ofNat 8 (v.toNat / 2 ^ j) = v.extractLsb' j 8 := by
  apply BitVec.eq_of_toNat_eq
  simp [BitVec.extractLsb', Nat.shiftRight_eq_div_pow]

/-- The bytes that a store writes are those of the value in the platform's order (R63). -/
theorem split_getElem? (z : Size) (bigEnd : Bool) (v : Word) {k : Nat} (hk : k < z.bytes) :
    (z.split bigEnd v)[k]? = some (byteOf z bigEnd v k) := by
  unfold byteOf
  rw [ofNat_div_eq_extractLsb']
  cases z with
  | byte =>
    obtain rfl : k = 0 := by simp only [Size.bytes] at hk; omega
    cases bigEnd <;> rfl
  | half =>
    obtain rfl | rfl : k = 0 ∨ k = 1 := by simp only [Size.bytes] at hk; omega
    all_goals cases bigEnd <;> rfl
  | word =>
    obtain rfl | rfl | rfl | rfl : k = 0 ∨ k = 1 ∨ k = 2 ∨ k = 3 := by simp only [Size.bytes] at hk; omega
    all_goals cases bigEnd <;> rfl

theorem byteAt_store (s : State) (z : Size) (a v : Word) {k : Nat} (hk : k < z.bytes) :
    (s.store z a v).byteAt (a + BitVec.ofNat 32 k) = some (byteOf z s.platform.bigEnd v k) := by
  rw [s.byteAt_store_inside z a v k hk, split_getElem? z _ v hk]

theorem setWidth_extractLsb'_zero (v : Word) (n : Nat) :
    (v.extractLsb' 0 n).setWidth 32 = BitVec.ofNat 32 (v.toNat % 2 ^ n) := by
  apply BitVec.eq_of_toNat_eq
  simp [BitVec.extractLsb']

/-- A stored value reads back with the width of the access (R75). -/
theorem valueAt_store (s : State) (z : Size) (a v : Word) : (s.store z a v).valueAt z a = some (lowBits z v) := by
  have hzero : a + BitVec.ofNat 32 0 = a := by simp
  cases z with
  | byte =>
    have h0 := byteAt_store s .byte a v (k := 0) (by decide)
    rw [hzero] at h0
    have hbyte : byteOf .byte s.platform.bigEnd v 0 = v.extractLsb' 0 8 := by
      rw [byteOf, ofNat_div_eq_extractLsb']
      cases s.platform.bigEnd <;> rfl
    simp only [State.valueAt, h0, Option.map_some, hbyte, setWidth_extractLsb'_zero]
    rfl
  | half =>
    have h0 := byteAt_store s .half a v (k := 0) (by decide)
    have h1 := byteAt_store s .half a v (k := 1) (by decide)
    rw [hzero] at h0
    have hjoin : v.extractLsb' 8 8 ++ v.extractLsb' 0 8 = v.extractLsb' 0 16 :=
      BitVec.extractLsb'_append_extractLsb'_eq_extractLsb' rfl
    have hhalf : (s.store .half a v).halfAt a = some (v.extractLsb' 0 16) := by
      have h1' : (s.store .half a v).byteAt (a + 1) = _ := h1
      simp only [State.halfAt, h0, h1', State.store_platform, byteOf, ofNat_div_eq_extractLsb', ← hjoin, Size.bytes]
      by_cases hb : s.platform.bigEnd = true
      · simp only [hb, if_true]
      · simp only [hb, Bool.false_eq_true, if_false]
    simp only [State.valueAt, hhalf, Option.map_some, setWidth_extractLsb'_zero]
    rfl
  | word =>
    have hlow : lowBits .word v = v := by
      apply BitVec.eq_of_toNat_eq
      have hlt := v.isLt
      simp only [lowBits, Size.bytes, BitVec.toNat_ofNat]
      omega
    rw [hlow]
    exact s.wordAt_store a v

/-- Settles O26: the stored bytes, the others, and the value that they make. -/
theorem storeThenRead : Obligations.StoreThenRead := by
  unfold Obligations.StoreThenRead
  exact fun s z a v => ⟨fun _ => byteAt_store s z a v, s.byteAt_store_outside z a v, valueAt_store s z a v⟩

end Sys2Proof.Proofs
end

section
/-! PROOFS. Data processing and multiplies (`41_data_processing.md`, `42_multiply.md`). -/

namespace Sys2Proof.Proofs

open Sys2Proof.Machine Sys2Proof.Claims

/-! ### The ALU (R150 to R152) -/

theorem addWithCarry_result (a b : Word) (cin : Bool) : (addWithCarry a b cin).result = a + b + bitWord cin := by
  cases cin <;> apply BitVec.eq_of_toNat_eq <;> simp [addWithCarry, bitWord, Nat.add_assoc]

/-- The complement of a number read as signed. -/
theorem toInt_not_word (b : Word) : (~~~b).toInt = -1 - b.toInt := by
  have hlt := b.isLt
  simp only [BitVec.toInt_eq_toNat_cond, BitVec.toNat_not]
  split <;> split <;> omega

/-- Adding the complement with a carry is subtracting with its borrow (R151). -/
theorem addWithCarry_not_result (a b : Word) (cin : Bool) :
    (addWithCarry a (~~~b) cin).result = a - b - 1 + bitWord cin := by
  rw [addWithCarry_result]
  bv_omega

theorem addWithCarry_not_carry (a b : Word) (cin : Bool) :
    (addWithCarry a (~~~b) cin).carry = decide (b.toNat + (!cin).toNat ≤ a.toNat) := by
  have hlt := b.isLt
  cases cin <;> simp only [addWithCarry, BitVec.toNat_not, decide_eq_decide, Bool.not_true, Bool.not_false,
    Bool.toNat_true, Bool.toNat_false] <;> omega

theorem addWithCarry_not_overflow (a b : Word) (cin : Bool) :
    (addWithCarry a (~~~b) cin).overflow =
      decide (a.toInt - b.toInt - ((!cin).toNat : Int) ≠ (a - b - 1 + bitWord cin).toInt) := by
  have hsum : a.toInt + (~~~b).toInt + (cin.toNat : Int) = a.toInt - b.toInt - ((!cin).toNat : Int) := by
    rw [toInt_not_word]
    cases cin <;> simp <;> omega
  rw [← addWithCarry_not_result, ← hsum]
  rfl

theorem addWithCarry_overflow (a b : Word) (cin : Bool) :
    (addWithCarry a b cin).overflow = decide (a.toInt + b.toInt + (cin.toNat : Int) ≠ (a + b + bitWord cin).toInt) := by
  rw [← addWithCarry_result]
  rfl

theorem xor_eq_or_and_not (a b : Word) : a ^^^ b = (a &&& ~~~b) ||| (b &&& ~~~a) := by
  ext i hi
  simp only [BitVec.getElem_xor, BitVec.getElem_or, BitVec.getElem_and, BitVec.getElem_not]
  cases a[i] <;> cases b[i] <;> rfl

theorem not_eq_xor_ones (b : Word) : ~~~b = 0xFFFFFFFF ^^^ b := (BitVec.allOnes_xor (x := b)).symm

/-- Adding a carry of 1 to a subtraction with borrow leaves the subtraction. -/
theorem sub_one_add_bitWord_true (a b : Word) : a - b - 1 + bitWord true = a - b := by
  simp [bitWord]

theorem addWithCarry_not_overflow_true (a b : Word) :
    (addWithCarry a (~~~b) true).overflow = decide (a.toInt - b.toInt ≠ (a - b).toInt) := by
  rw [addWithCarry_not_overflow, sub_one_add_bitWord_true, Bool.not_true, Bool.toNat_false, Nat.cast_zero, sub_zero]

/-- The ALU computes the result that the statements name. -/
theorem dpAlu_result (op : DpOp) (a : Word) (o : Operand) (p : Psr) :
    (dpAlu op a o p).result = op.result a o.value p.c := by
  cases op with
  | and | orr | bic | mov => rfl
  | eor => exact xor_eq_or_and_not a o.value
  | mvn => exact not_eq_xor_ones o.value
  | add => exact (addWithCarry_result a o.value false).trans (by simp [bitWord, DpOp.result])
  | adc => exact addWithCarry_result a o.value p.c
  | sub => exact (addWithCarry_not_result a o.value true).trans (sub_one_add_bitWord_true a o.value)
  | rsb => exact (addWithCarry_not_result o.value a true).trans (sub_one_add_bitWord_true o.value a)
  | sbc => exact addWithCarry_not_result a o.value p.c
  | rsc => exact addWithCarry_not_result o.value a p.c

theorem dpAlu_carry (op : DpOp) (a : Word) (o : Operand) (p : Psr) :
    (dpAlu op a o p).carry = op.newC a o.value p.c o.carry := by
  cases op with
  | and | orr | bic | mov | eor | mvn => rfl
  | add | adc => rfl
  | sub => exact addWithCarry_not_carry a o.value true
  | rsb => exact addWithCarry_not_carry o.value a true
  | sbc => exact addWithCarry_not_carry a o.value p.c
  | rsc => exact addWithCarry_not_carry o.value a p.c

theorem dpAlu_overflow (op : DpOp) (a : Word) (o : Operand) (p : Psr) :
    (dpAlu op a o p).overflow = op.newV a o.value p.c p.v := by
  cases op with
  | and | orr | bic | mov | eor | mvn => rfl
  | add =>
    have h := addWithCarry_overflow a o.value false
    simp only [bitWord, Bool.false_eq_true, if_false, Bool.toNat_false, Nat.cast_zero, add_zero] at h
    exact h
  | adc => exact addWithCarry_overflow a o.value p.c
  | sub => exact addWithCarry_not_overflow_true a o.value
  | rsb => exact addWithCarry_not_overflow_true o.value a
  | sbc => exact addWithCarry_not_overflow a o.value p.c
  | rsc => exact addWithCarry_not_overflow o.value a p.c

/-- The flags of the ALU are those that the statements name (R148). -/
theorem withAlu_dpAlu (op : DpOp) (a : Word) (o : Operand) (p : Psr) : p.withAlu (dpAlu op a o p) = op.flags a o p := by
  simp only [Psr.withAlu, DpOp.flags, dpAlu_result, dpAlu_carry, dpAlu_overflow, BitVec.msb_eq_getLsbD_last]

/-! ### Data processing -/

/-- Settles O20: the ALU's result in Rd, its flags with S, and going on. -/
theorem dataProcessingResult : Obligations.DataProcessingResult := by
  unfold Obligations.DataProcessingResult
  intro op o c flags rn rd s hready hrd hpc
  rw [(framed_dp op o c flags rn rd).exec_of_ready hready]
  unfold State.finishResult
  rw [if_neg hrd, State.writeReg_of_ne _ _ hrd, withAlu_dpAlu, dpAlu_result]
  refine State.advance_next.2 ⟨hpc, ?_⟩
  cases flags <;> rfl

/-- Settles O21: a branch to the ALU's result. -/
theorem dataProcessingBranch : Obligations.DataProcessingBranch := by
  unfold Obligations.DataProcessingBranch
  intro op o c rn s hready
  rw [(framed_dp op o c false rn 15).exec_of_ready hready]
  simp only [State.finishResult, State.branchTo, if_true, Bool.false_eq_true, if_false, dpAlu_result, and_pcMask_eq]

theorem mode_eq_none_iff (p : Psr) : p.mode = none ↔ p.m ∉ modeFields := by
  have table : ∀ m : BitVec 5, Mode.ofBits m = none ↔ m ∉ modeFields := by decide
  exact table p.m

/-- An exception return, by the SPSR of the current mode (R320). -/
theorem exceptionReturn_eq (s : State) (v : Word) :
    s.exceptionReturn v =
      match s.spsr with
      | none => .fault .noSpsr
      | some p =>
        if p.t = true then .refused .thumbState
        else if p.m ∉ modeFields then .fault .invalidMode
        else
          .next { s with cpsr := p, pc := BitVec.ofNat 32 (v.toNat / 4 * 4), stale := [], afterUserBank := false } := by
  unfold State.exceptionReturn
  cases s.spsr with
  | none => rfl
  | some p => simp only [mode_eq_none_iff, State.branchTo, and_pcMask_eq]

/-- Settles O22: an exception return to the ALU's result. -/
theorem dataProcessingReturn : Obligations.DataProcessingReturn := by
  unfold Obligations.DataProcessingReturn
  intro op o c rn s hready
  have hexec := (framed_dp op o c true rn 15).exec_of_ready hready
  simp only [State.finishResult, if_true, dpAlu_result, exceptionReturn_eq] at hexec
  exact hexec

/-- Settles O23: the ALU's flags, and going on. -/
theorem comparison : Obligations.Comparison := by
  unfold Obligations.Comparison
  intro op o c rn sbz s hready hpc
  rw [(framed_cmp op o c rn sbz).exec_of_ready hready]
  unfold State.finishCompare
  rw [withAlu_dpAlu]
  exact State.advance_of_ne hpc

/-! ### Multiplies -/

/-- The end of MUL and MLA (R194). -/
theorem finishMul_eq (s : State) (flags : Bool) {rd : RegNum} (r : Word) (hrd : rd ≠ 15) (hpc : s.pc ≠ 0xFFFFFFFC) :
    s.finishMul flags rd r =
      .next
        { s with
          regs := s.regs.write s.cpsr.m rd r
          cpsr :=
            if flags then { s.cpsr with n := r.getLsbD 31, z := decide (r = 0), c := Config.freeBit s.draws }
            else s.cpsr
          pc := s.pc + 4
          draws := s.draws + flags.toNat
          afterUserBank := false } := by
  unfold State.finishMul
  cases flags with
  | true =>
    rw [if_pos rfl, State.writeReg_of_ne _ _ hrd, Psr.withMul, BitVec.msb_eq_getLsbD_last]
    exact State.advance_of_ne hpc
  | false =>
    rw [if_neg (by decide), State.writeReg_of_ne _ _ hrd]
    exact State.advance_of_ne hpc

/-- Settles O24: the product or sum modulo 2^32, with the next free bit as C. -/
theorem multiplyLow : Obligations.MultiplyLow := by
  unfold Obligations.MultiplyLow
  intro accumulate c flags rd rn rs rm s hready hpc
  refine ⟨_, Config.freeBit s.draws, rfl, ?_⟩
  have hwf := hready.1
  cases accumulate with
  | true =>
    have hr : s.readReg rm * s.readReg rs + s.readReg rn =
        BitVec.ofNat 32 ((s.readReg rm).toNat * (s.readReg rs).toNat + (s.readReg rn).toNat) := by
      simp [BitVec.ofNat_add, BitVec.ofNat_mul]
    have hexec := (framed_mla c flags rd rn rs rm).exec_of_ready hready
    rw [hr, finishMul_eq s flags _ (mla_ne_15_of_wf hwf) hpc] at hexec
    exact hexec
  | false =>
    have hr : s.readReg rm * s.readReg rs = BitVec.ofNat 32 ((s.readReg rm).toNat * (s.readReg rs).toNat + 0) := by
      simp [BitVec.ofNat_mul]
    have hexec := (framed_mul c flags rd rn rs rm).exec_of_ready hready
    rw [hr, finishMul_eq s flags _ (mul_ne_15_of_wf hwf) hpc] at hexec
    exact hexec

/-- The low half of a 64-bit number. -/
theorem extractLsb'_low_ofInt (x : Int) : (BitVec.ofInt 64 x).extractLsb' 0 32 = BitVec.ofInt 32 x := by
  apply BitVec.eq_of_toNat_eq
  simp only [BitVec.extractLsb', Nat.shiftRight_zero, BitVec.toNat_ofNat, BitVec.toNat_ofInt]
  omega

/-- The high half of a 64-bit number. -/
theorem extractLsb'_high_ofInt (x : Int) :
    (BitVec.ofInt 64 x).extractLsb' 32 32 = BitVec.ofInt 32 (x / 2 ^ 32) := by
  apply BitVec.eq_of_toNat_eq
  simp only [BitVec.extractLsb', Nat.shiftRight_eq_div_pow, BitVec.toNat_ofNat, BitVec.toNat_ofInt]
  omega

theorem accumulator_eq_ofInt (hi lo : Word) : hi ++ lo = BitVec.ofInt 64 ((hi.toNat : Int) * 2 ^ 32 + lo.toNat) := by
  apply BitVec.eq_of_toNat_eq
  have hhi := hi.isLt
  have hlo := lo.isLt
  rw [BitVec.toNat_append, ← Nat.shiftLeft_add_eq_or_of_lt hlo, Nat.shiftLeft_eq, BitVec.toNat_ofInt]
  omega

/-- Reading the high word as signed changes the accumulator by a multiple of 2^64. -/
theorem accumulator_eq_ofInt_signed (hi lo : Word) : hi ++ lo = BitVec.ofInt 64 (hi.toInt * 2 ^ 32 + lo.toNat) := by
  rw [accumulator_eq_ofInt]
  apply BitVec.eq_of_toNat_eq
  have hhi := hi.isLt
  rw [BitVec.toNat_ofInt, BitVec.toNat_ofInt, BitVec.toInt_eq_toNat_cond]
  split <;> omega

theorem longResult_eq_ofInt (op : LongOp) (m r hi lo : Word) :
    longResult op m r (hi ++ lo) = BitVec.ofInt 64 (op.exact m r hi lo) := by
  have humul : umul m r = BitVec.ofInt 64 ((m.toNat : Int) * r.toNat) := by
    rw [umul, ← BitVec.ofInt_natCast]
    push_cast
    rfl
  cases op with
  | umull => exact humul
  | umlal => rw [longResult, humul, accumulator_eq_ofInt, ← BitVec.ofInt_add]; rfl
  | smull => rfl
  | smlal => rw [longResult, smul, accumulator_eq_ofInt_signed, ← BitVec.ofInt_add]; rfl

theorem eq_zero_iff_halves (x : BitVec 64) : x = 0 ↔ x.extractLsb' 32 32 = 0 ∧ x.extractLsb' 0 32 = 0 := by
  have hx := x.isLt
  constructor
  · rintro rfl
    exact ⟨rfl, rfl⟩
  · rintro ⟨hhi, hlo⟩
    have hhi' : (x.extractLsb' 32 32).toNat = 0 := congrArg BitVec.toNat hhi
    have hlo' : (x.extractLsb' 0 32).toNat = 0 := congrArg BitVec.toNat hlo
    simp only [BitVec.extractLsb', Nat.shiftRight_eq_div_pow, BitVec.toNat_ofNat] at hhi' hlo'
    have hzero : x.toNat = 0 := by omega
    exact BitVec.eq_of_toNat_eq hzero

/-- The end of the long multiplies (R194). -/
theorem finishMulLong_eq (s : State) (flags : Bool) {rdHi rdLo : RegNum} (r : BitVec 64)
    (hhi : rdHi ≠ 15) (hlo : rdLo ≠ 15) (hpc : s.pc ≠ 0xFFFFFFFC) :
    s.finishMulLong flags rdHi rdLo r =
      .next
        { s with
          regs := (s.regs.write s.cpsr.m rdLo (r.extractLsb' 0 32)).write s.cpsr.m rdHi (r.extractLsb' 32 32)
          cpsr :=
            if flags then
              { s.cpsr with
                n := (r.extractLsb' 32 32).getLsbD 31
                z := decide (r.extractLsb' 32 32 = 0 ∧ r.extractLsb' 0 32 = 0)
                c := Config.freeBit s.draws
                v := Config.freeBit (s.draws + 1) }
            else s.cpsr
          pc := s.pc + 4
          draws := s.draws + 2 * flags.toNat
          afterUserBank := false } := by
  have hmsb : r.msb = (r.extractLsb' 32 32).getLsbD 31 := by
    rw [BitVec.msb_eq_getLsbD_last, BitVec.getLsbD_extractLsb']
    rfl
  cases flags with
  | true =>
    simp only [State.finishMulLong, if_true, State.writeReg_of_ne _ _ hlo, State.writeReg_of_ne _ _ hhi,
      Psr.withMulLong, hmsb, decide_eq_decide.2 (eq_zero_iff_halves r)]
    exact State.advance_of_ne hpc
  | false =>
    simp only [State.finishMulLong, Bool.false_eq_true, if_false, State.writeReg_of_ne _ _ hlo,
      State.writeReg_of_ne _ _ hhi]
    exact State.advance_of_ne hpc

/-- Settles O25: the halves of the exact number modulo 2^64, with the next two free bits as C and V. -/
theorem multiplyLong : Obligations.MultiplyLong := by
  unfold Obligations.MultiplyLong
  intro op c flags rdHi rdLo rs rm s hready hpc
  obtain ⟨hhi, hlo⟩ := long_ne_15_of_wf hready.1
  refine ⟨_, _, Config.freeBit s.draws, Config.freeBit (s.draws + 1), rfl, rfl, ?_⟩
  rw [(framed_long op c flags rdHi rdLo rs rm).exec_of_ready hready, finishMulLong_eq s flags _ hhi hlo hpc,
    State.accumulator, longResult_eq_ofInt, extractLsb'_low_ofInt, extractLsb'_high_ofInt]

end Sys2Proof.Proofs
end

section
/-! PROOFS. Single transfers, swaps, branches, status registers and traps (`43_load_store.md`, `45_swap.md` to
`49_coprocessor_undefined.md`). -/

namespace Sys2Proof.Proofs

open Sys2Proof.Machine Sys2Proof.Claims

/-! ### Taking the exceptions of an instruction (R310) -/

theorem takeException_dataAbort (s : State) :
    s.takeException .dataAbort =
      { s with
        regs := s.regs.set .r14Abt (s.pc + 8)
        spsrAbt := s.cpsr
        cpsr := { s.cpsr with i := true, t := false, m := 0b10111 }
        pc := 0x00000010
        stale := []
        afterUserBank := false } := rfl

theorem takeException_swi (s : State) :
    s.takeException .swi =
      { s with
        spsrSvc := s.cpsr
        cpsr := { s.cpsr with m := 0b10011, i := true, t := false }
        regs := s.regs.set .r14Svc (s.pc + 4)
        pc := 0x00000008
        stale := []
        afterUserBank := false } := rfl

theorem takeException_undefined (s : State) :
    s.takeException .undefined =
      { s with
        spsrUnd := s.cpsr
        cpsr := { s.cpsr with m := 0b11011, i := true, t := false }
        regs := s.regs.set .r14Und (s.pc + 4)
        pc := 0x00000004
        stale := []
        afterUserBank := false } := rfl

/-! ### Single transfers -/

theorem misaligned_eq_false {z : Size} {a : Word} (h : a.toNat % z.bytes = 0) : z.misaligned a = false := by
  simp [Size.misaligned, h]

theorem misaligned_eq_true {z : Size} {a : Word} (h : a.toNat % z.bytes ≠ 0) : z.misaligned a = true := by
  simpa [Size.misaligned] using h

theorem memRead_of_misaligned (s : State) (p : Bool) {z : Size} {a : Word} (h : a.toNat % z.bytes ≠ 0) :
    s.memRead p z a = .fault (.misaligned a) := if_pos (misaligned_eq_true h)

theorem memWrite_of_misaligned (s : State) (p : Bool) {z : Size} {a : Word} (v : Word) (h : a.toNat % z.bytes ≠ 0) :
    s.memWrite p z a v = .fault (.misaligned a) := if_pos (misaligned_eq_true h)

theorem memRead_of_unwritten {s : State} {p : Bool} {z : Size} {a : Word} (ha : a.toNat % z.bytes = 0)
    (habort : s.aborts a z.bytes .read p = false) (hv : s.valueAt z a = none) :
    s.memRead p z a = .fault (.unwritten a) := by
  simp [State.memRead, misaligned_eq_false ha, habort, hv]

/-- The base write-back of a single transfer, in any state with the registers and the mode that the
transfer began with. -/
theorem writeBase_single {x : Single} {c : Cond} {u : Bool} {rn rd : RegNum} {s : State}
    (hwf : (x.instr c u rn rd).wf = true) {t : State} (hregs : t.regs = s.regs) (hcpsr : t.cpsr = s.cpsr) :
    t.writeBase rn (singleAddressing x u rn s).writeBack = { t with regs := x.baseRegs u rn s } := by
  unfold singleAddressing Single.baseRegs
  cases hwb : x.writesBack with
  | true =>
    rw [if_pos rfl, if_pos rfl, State.writeBase_some, t.writeReg_of_ne _ (base_ne_15_of_wf hwf hwb), hregs, hcpsr]
  | false =>
    rw [if_neg (by decide), if_neg (by decide), State.writeBase_none, ← hregs]

/-- Only LDR, which extends nothing, may name R15 as Rd (R206, R214, R217). -/
theorem extend_of_wf_15 {x : Single} {c : Cond} {u : Bool} {rn : RegNum} (h : (x.instr c u rn 15).wf = true)
    (v : Word) :
    x.extend v = v := by
  rw [← singleCheck_eq_none] at h
  cases x with
  | plain load byte mode o => rfl
  | half op p w o => simp [singleCheck, halfForm_eq_none, notR15_eq_none, dataRegOk] at h

/-- Settles O27: the read gives the datum, and after the base write-back it goes to Rd or to the PC. -/
theorem singleLoad : Obligations.SingleLoad := by
  unfold Obligations.SingleLoad
  intro x c u rn rd s v hload hready halign habort hv
  have hwf := hready.1
  have hread : s.memRead (x.privilege s) x.size (singleAddressing x u rn s).address = .ok v :=
    State.memRead_ok.2 ⟨misaligned_eq_false halign, habort, hv⟩
  have hexec := (framed_single x c u rn rd).exec_of_ready hready
  simp only [singleBody, hload, if_true, State.load, hread, singleExtend_apply,
    writeBase_single hwf (t := s) rfl rfl] at hexec
  constructor
  · intro hrd hpc
    rw [if_neg hrd, State.writeReg_of_ne _ _ hrd] at hexec
    exact hexec.trans (State.advance_of_ne hpc)
  · rintro rfl
    rw [if_pos rfl, extend_of_wf_15 hwf, State.branchTo, and_pcMask_eq] at hexec
    exact hexec

/-- Settles O28: the store, then the base write-back, which touches no memory. -/
theorem singleStore : Obligations.SingleStore := by
  unfold Obligations.SingleStore
  intro x c u rn rd s hload hready halign habort hpc
  have hwrite : s.memWrite (x.privilege s) x.size (singleAddressing x u rn s).address (s.readReg rd) =
      .ok (s.store x.size (x.address u rn s) (s.readReg rd)) :=
    State.memWrite_ok.2 ⟨misaligned_eq_false halign, habort, rfl⟩
  have hexec := (framed_single x c u rn rd).exec_of_ready hready
  simp only [singleBody, hload, Bool.false_eq_true, if_false, State.storeReg, hwrite,
    writeBase_single hready.1 (State.store_regs ..) (State.store_cpsr ..)] at hexec
  refine ⟨_, hexec.trans (State.advance_of_ne hpc), rfl, ?_, fun y hy => ?_⟩
  · exact valueAt_store s x.size (x.address u rn s) (s.readReg rd)
  · exact s.byteAt_store_outside x.size (x.address u rn s) (s.readReg rd) y hy

/-- Settles O29: the fault of the access is that of the instruction. -/
theorem singleTransferFaults : Obligations.SingleTransferFaults := by
  unfold Obligations.SingleTransferFaults
  intro x c u rn rd s hready
  rw [(framed_single x c u rn rd).exec_of_ready hready]
  constructor
  · intro hmis
    cases hload : x.isLoad with
    | true => simp [singleBody, hload, State.load, singleAddressing, memRead_of_misaligned s _ hmis]
    | false => simp [singleBody, hload, State.storeReg, singleAddressing, memWrite_of_misaligned s _ _ hmis]
  · intro hload halign habort hv
    simp [singleBody, hload, State.load, singleAddressing, memRead_of_unwritten halign habort hv]

/-- The data abort of a single transfer (R207, R74). -/
theorem abortTransfer_single {x : Single} {c : Cond} {u : Bool} {rn rd : RegNum} {s : State}
    (hwf : (x.instr c u rn rd).wf = true) :
    s.abortTransfer rn (singleAddressing x u rn s).writeBack =
      .next
        (State.takeException { s with regs := if s.platform.baseUpdated then x.baseRegs u rn s else s.regs }
          .dataAbort) := by
  unfold State.abortTransfer
  rw [writeBase_single hwf rfl rfl]
  cases s.platform.baseUpdated <;> rfl

/-- Settles O30: the abort of the access is a data abort of the instruction, the base as the parameter says. -/
theorem singleTransferAborts : Obligations.SingleTransferAborts := by
  unfold Obligations.SingleTransferAborts
  intro x c u rn rd s hready halign habort
  rw [(framed_single x c u rn rd).exec_of_ready hready]
  have haborted : singleBody x u rn rd s = s.abortTransfer rn (singleAddressing x u rn s).writeBack := by
    cases hload : x.isLoad with
    | true =>
      have hread : s.memRead (x.privilege s) x.size (singleAddressing x u rn s).address = .abort :=
        State.memRead_abort.2 ⟨misaligned_eq_false halign, by rw [hload] at habort; exact habort⟩
      simp only [singleBody, hload, if_true, State.load, hread]
    | false =>
      have hwrite : s.memWrite (x.privilege s) x.size (singleAddressing x u rn s).address (s.readReg rd) = .abort :=
        State.memWrite_abort.2 ⟨misaligned_eq_false halign, by rw [hload] at habort; exact habort⟩
      simp only [singleBody, hload, Bool.false_eq_true, if_false, State.storeReg, hwrite]
  rw [haborted, abortTransfer_single hready.1, takeException_dataAbort]

/-! ### Swaps -/

/-- Settles O38: the read gives the datum that goes to Rd, and the store puts Rm in its place. -/
theorem swapExchanges : Obligations.SwapExchanges := by
  unfold Obligations.SwapExchanges
  rintro byte c rn rd rm s z v rfl hready halign hread hwrite hv hpc
  have hrd := swap_ne_15_of_wf hready.1
  have hexec := (framed_swap byte c rn rd rm).exec_of_ready hready
  simp only [State.swap, State.memRead_ok.2 ⟨misaligned_eq_false halign, hread, hv⟩,
    State.memWrite_ok.2 ⟨misaligned_eq_false halign, hwrite, rfl⟩, State.writeReg_of_ne _ _ hrd] at hexec
  refine ⟨_, hexec.trans (State.advance_of_ne hpc), rfl, ?_, fun y hy => ?_⟩
  · exact valueAt_store s _ (s.readReg rn) (s.readReg rm)
  · exact s.byteAt_store_outside _ (s.readReg rn) (s.readReg rm) y hy

/-- Settles O39: an abort of the read or of the write is a data abort in the state before. -/
theorem swapAborts : Obligations.SwapAborts := by
  unfold Obligations.SwapAborts
  rintro byte c rn rd rm s z rfl hready halign h
  have hexec := (framed_swap byte c rn rd rm).exec_of_ready hready
  rw [← takeException_dataAbort]
  by_cases hread : s.aborts (s.readReg rn) (if byte then Size.byte else Size.word).bytes .read s.privileged = true
  · simp only [State.swap, State.memRead_abort.2 ⟨misaligned_eq_false halign, hread⟩] at hexec
    exact hexec
  · obtain ⟨hwrite, hvalue⟩ := h.resolve_left hread
    obtain ⟨v, hv⟩ := Option.ne_none_iff_exists'.1 hvalue
    simp only [State.swap, State.memRead_ok.2 ⟨misaligned_eq_false halign, Bool.eq_false_of_not_eq_true hread, hv⟩,
      State.memWrite_abort.2 ⟨misaligned_eq_false halign, hwrite⟩] at hexec
    exact hexec

/-! ### Branches -/

/-- A PC write of an aligned address keeps it. -/
theorem and_pcMask_of_aligned {v : Word} (h : v.toNat % 4 = 0) : v &&& 0xFFFFFFFC = v := by
  rw [and_pcMask_eq]
  apply BitVec.eq_of_toNat_eq
  have hlt := v.isLt
  rw [BitVec.toNat_ofNat]
  omega

/-- The target of a branch as an exact number modulo 2^32 (R261). -/
theorem branchTarget_eq (pc : Word) (imm24 : BitVec 24) :
    branchTarget pc imm24 = BitVec.ofInt 32 ((pc.toNat : Int) + 8 + 4 * imm24.toInt) := by
  have hdef : branchTarget pc imm24 = pc + 8#32 + BitVec.ofInt 32 imm24.toInt <<< 2 := rfl
  apply BitVec.eq_of_toNat_eq
  simp only [hdef, BitVec.toNat_add, BitVec.toNat_shiftLeft, BitVec.toNat_ofInt,
    Nat.shiftLeft_eq, BitVec.toNat_ofNat]
  omega

theorem branchTarget_aligned {pc : Word} (imm24 : BitVec 24) (h : pc.toNat % 4 = 0) :
    (branchTarget pc imm24).toNat % 4 = 0 := by
  rw [branchTarget_eq, BitVec.toNat_ofInt]
  omega

/-- Settles O40: the target is aligned, so the PC write keeps it. -/
theorem branchTarget : Obligations.BranchTarget := by
  unfold Obligations.BranchTarget
  intro link c imm24 s hready hpc
  have hexec := (framed_branch link c imm24).exec_of_ready hready
  have htarget := and_pcMask_of_aligned (branchTarget_aligned imm24 (of_decide_eq_true hpc))
  rw [branchBody, State.branchTo, htarget, branchTarget_eq] at hexec
  cases link <;> exact hexec

theorem getLsbD_zero_eq (v : Word) : v.getLsbD 0 = decide (v.toNat % 2 = 1) := by
  simp [BitVec.getLsbD, Nat.testBit_eq_decide_div_mod_eq]

theorem getLsbD_one_eq (v : Word) : v.getLsbD 1 = decide (v.toNat / 2 % 2 = 1) := by
  simp [BitVec.getLsbD, Nat.testBit_eq_decide_div_mod_eq]

/-- Settles O41: bits 0 and 1 of the address decide. -/
theorem branchExchange : Obligations.BranchExchange := by
  unfold Obligations.BranchExchange
  intro c rm s hready
  rw [(framed_bx c rm).exec_of_ready hready]
  unfold bxBody
  rw [getLsbD_zero_eq, getLsbD_one_eq]
  refine ⟨fun h => ?_, fun h => ?_, fun h => ?_⟩
  · have h0 : ¬ (s.readReg rm).toNat % 2 = 1 := by omega
    have h1 : ¬ (s.readReg rm).toNat / 2 % 2 = 1 := by omega
    simp only [h0, h1, decide_false, Bool.false_eq_true, if_false, State.branchTo, and_pcMask_of_aligned h]
  · simp only [h, decide_true, if_true]
  · have h0 : ¬ (s.readReg rm).toNat % 2 = 1 := by omega
    have h1 : (s.readReg rm).toNat / 2 % 2 = 1 := by omega
    simp only [h0, h1, decide_false, decide_true, Bool.false_eq_true, if_false, if_true]

/-! ### Status registers -/

theorem toNat_append_eq {n m : Nat} (x : BitVec n) (y : BitVec m) : (x ++ y).toNat = x.toNat * 2 ^ m + y.toNat := by
  rw [BitVec.toNat_append, ← Nat.shiftLeft_add_eq_or_of_lt y.isLt, Nat.shiftLeft_eq]

/-- The word of a status register is the number of its bits (R41). -/
theorem toWord_eq_psrWord (p : Psr) : p.toWord = psrWord p := by
  apply BitVec.eq_of_toNat_eq
  have hm := p.m.isLt
  have hn := p.n.toNat_le
  have hz := p.z.toNat_le
  have hc := p.c.toNat_le
  have hv := p.v.toNat_le
  have hi := p.i.toNat_le
  have hf := p.f.toNat_le
  have ht := p.t.toNat_le
  simp only [Psr.toWord, psrWord, toNat_append_eq, BitVec.toNat_ofBool, BitVec.toNat_ofNat]
  omega

/-- Settles O42: the status register, where there is one, in its word. -/
theorem moveFromStatus : Obligations.MoveFromStatus := by
  unfold Obligations.MoveFromStatus
  intro c spsr rd s hready hpc
  have hrd := ne_15_of_noR15 hready.1
  have hexec := (framed_mrs c spsr rd).exec_of_ready hready
  unfold mrsBody at hexec
  cases hp : if spsr then s.spsr else some s.cpsr with
  | none =>
    rw [hp] at hexec
    exact hexec
  | some p =>
    rw [hp] at hexec
    simp only [State.writeReg_of_ne _ _ hrd, toWord_eq_psrWord] at hexec
    exact hexec.trans (State.advance_of_ne hpc)

/-- A word holds a mode exactly where its low five bits are one of the seven encodings (R44). -/
theorem ofWord_mode_eq_none_iff (v : Word) : (Psr.ofWord v).mode = none ↔ v.setWidth 5 ∉ modeFields := by
  rw [mode_eq_none_iff, Psr.ofWord, ← BitVec.setWidth_eq_extractLsb' (by decide)]

/-- Settles O43: the two checks of a control write, and then the selected fields. -/
theorem moveToCpsr : Obligations.MoveToCpsr := by
  unfold Obligations.MoveToCpsr
  intro x c mask s hready hpc
  have hexec := (framed_msr x c false mask).exec_of_ready hready
  have ht : (Psr.ofWord (x.value s)).t = (x.value s).getLsbD 5 := rfl
  simp only [State.writePsr, Bool.false_eq_true, if_false, State.writeCpsr, withFields_eq_maskedPsr, Bool.and_true,
    Bool.and_false, ofWord_mode_eq_none_iff, ht, bne_iff_ne] at hexec
  rw [hexec]
  cases hcontrol : mask.getLsbD 0 && s.privileged with
  | false =>
    simp only [Bool.false_eq_true, if_false, false_and]
    exact State.advance_of_ne hpc
  | true =>
    obtain ⟨h0, -⟩ := Bool.and_eq_true_iff.1 hcontrol
    simp only [if_true, true_and, h0]
    rw [State.advance_of_ne (s := { s with cpsr := maskedPsr s.cpsr (mask.getLsbD 3) true (x.value s) }) hpc]

/-- The SPSR of a mode that has one reads as written. -/
theorem spsr_setSpsr {s : State} {m : Mode} {p : Psr} (q : Psr) (hm : s.cpsr.mode = some m) (hp : s.spsr = some p) :
    (s.setSpsr m q).spsr = some q := by
  unfold State.spsr at hp ⊢
  rw [State.setSpsr_cpsr, hm]
  rw [hm] at hp
  cases m <;> first | rfl | cases hp

/-- Writing the SPSR of the current mode changes that one alone. -/
theorem setSpsr_current (s : State) {m : Mode} (q : Psr) (hm : s.cpsr.mode = some m) :
    s.setSpsr m q =
      { s with
        spsrSvc := if s.cpsr.m = 0b10011 then (s.setSpsr m q).spsrSvc else s.spsrSvc
        spsrAbt := if s.cpsr.m = 0b10111 then (s.setSpsr m q).spsrAbt else s.spsrAbt
        spsrUnd := if s.cpsr.m = 0b11011 then (s.setSpsr m q).spsrUnd else s.spsrUnd
        spsrIrq := if s.cpsr.m = 0b10010 then (s.setSpsr m q).spsrIrq else s.spsrIrq
        spsrFiq := if s.cpsr.m = 0b10001 then (s.setSpsr m q).spsrFiq else s.spsrFiq } := by
  rw [← Mode.bits_of_ofBits hm]
  cases m <;> rfl

theorem mode_of_spsr {s : State} {p : Psr} (hp : s.spsr = some p) : ∃ m, s.cpsr.mode = some m := by
  cases hm : s.cpsr.mode with
  | some m => exact ⟨m, rfl⟩
  | none =>
    unfold State.spsr at hp
    rw [hm] at hp
    cases hp

theorem writeSpsr_of_none {s : State} (mask : BitVec 4) (v : Word) (h : s.spsr = none) :
    s.writeSpsr mask v = .fault .noSpsr := by
  unfold State.writeSpsr
  rw [h]
  cases s.cpsr.mode <;> rfl

theorem writeSpsr_of_some {s : State} {m : Mode} {p : Psr} (mask : BitVec 4) (v : Word) (hm : s.cpsr.mode = some m)
    (hp : s.spsr = some p) :
    s.writeSpsr mask v =
      if mask.getLsbD 0 = true ∧ v.setWidth 5 ∉ modeFields then .fault .invalidMode
      else (s.setSpsr m (maskedPsr p (mask.getLsbD 3) (mask.getLsbD 0) v)).advance := by
  unfold State.writeSpsr
  simp only [hm, hp, withFields_eq_maskedPsr, Bool.and_true, Bool.and_eq_true, decide_eq_true_eq,
    ofWord_mode_eq_none_iff]

/-- Settles O44: without an SPSR the fault, and otherwise the mode check and the selected fields. -/
theorem moveToSpsr : Obligations.MoveToSpsr := by
  unfold Obligations.MoveToSpsr
  intro x c mask s hready hpc
  rw [(framed_msr x c true mask).exec_of_ready hready]
  refine ⟨writeSpsr_of_none mask (x.value s), fun p hp => ?_⟩
  obtain ⟨m, hm⟩ := mode_of_spsr hp
  have hwrite := writeSpsr_of_some mask (x.value s) hm hp
  refine ⟨fun h0 hmode => hwrite.trans (if_pos ⟨h0, hmode⟩), fun hmode => ?_⟩
  rw [if_neg fun h => h.2 (hmode h.1)] at hwrite
  have hset := setSpsr_current s (maskedPsr p (mask.getLsbD 3) (mask.getLsbD 0) (x.value s)) hm
  have hspsr := spsr_setSpsr (maskedPsr p (mask.getLsbD 3) (mask.getLsbD 0) (x.value s)) hm hp
  refine ⟨_, hwrite.trans (State.advance_of_ne (by simpa using hpc)), hspsr, ?_⟩
  exact congrArg (fun v : State => { v with pc := v.pc + 4, afterUserBank := false }) hset

/-! ### Traps -/

/-- An instruction that names no register and is well-formed runs when its condition holds. -/
theorem ready_of_unnamed {i : Instr} {s : State} (hwf : i.wf = true) (h : condPassed i.cond s.cpsr = true) :
    Ready i [] s := ⟨hwf, h, by simp [State.hazard]⟩

/-- Settles O45: the SWI entry, whatever its number. -/
theorem softwareInterrupt : Obligations.SoftwareInterrupt := by
  unfold Obligations.SoftwareInterrupt
  intro c number s h
  rw [(framed_swi c number).exec_of_ready (ready_of_unnamed rfl h), takeException_swi]

theorem wf_of_coprocessor {i : Instr} {cp : BitVec 4} (h : coprocessorOf i = some cp) : i.wf = true := by
  cases i <;> first | rfl | cases h

/-- Settles O46: the undefined-instruction entry, unless the coprocessor is present. -/
theorem undefinedInstruction : Obligations.UndefinedInstruction := by
  unfold Obligations.UndefinedInstruction
  intro i s hcond
  constructor
  · rw [← takeException_undefined]
    rintro (⟨c, hi, lo, rfl⟩ | ⟨cp, hcp, habsent⟩)
    · exact (framed_undefined c hi lo).exec_of_ready (ready_of_unnamed rfl hcond)
    · rw [(framed_coprocessor hcp).exec_of_ready (ready_of_unnamed (wf_of_coprocessor hcp) hcond)]
      simp [State.coprocessor, habsent]
  · intro cp hcp hpresent
    rw [(framed_coprocessor hcp).exec_of_ready (ready_of_unnamed (wf_of_coprocessor hcp) hcond)]
    simp [State.coprocessor, hpresent]

/-! ### Exception returns -/

/-- In the handler the saved CPSR is the SPSR of the current mode. -/
theorem spsr_takeException (s : State) {e : Exc} (he : e ≠ .reset) : (s.takeException e).spsr = some s.cpsr := by
  rw [takeException_of_ne_reset s he]
  cases e <;> rfl

/-- In the handler R14 is the return address (R311). -/
theorem readReg_14_takeException (s : State) {e : Exc} (he : e ≠ .reset) :
    (s.takeException e).readReg 14 = e.returnAddress s.pc := by
  rw [takeException_of_ne_reset s he]
  cases e <;> rfl

/-- The return instruction of an exception as a data-processing instruction: its operation, operand and first
register. -/
def returnForm : Exc → DpOp × Op2 × RegNum
  | .swi | .undefined => (.mov, .shi 0 .lsl 14, 0)
  | .dataAbort => (.sub, .imm 0 8, 14)
  | _ => (.sub, .imm 0 4, 14)

theorem returnInstr_eq (e : Exc) :
    returnInstr e = (returnForm e).1.instr (returnForm e).2.1 .al true (returnForm e).2.2 15 := by
  cases e <;> rfl

theorem rotateRight_zero_word (m : Word) : m.rotateRight 0 = m := by
  apply BitVec.eq_of_getLsbD_eq
  intro i hi
  rw [getLsbD_rotateRight_word m 0 hi, Nat.add_zero, Nat.mod_eq_of_lt hi]

/-- The return instruction computes the address at which the interrupted program goes on. -/
theorem return_result (s : State) {e : Exc} (he : e ≠ .reset) :
    (returnForm e).1.result ((s.takeException e).readReg (returnForm e).2.2)
        ((returnForm e).2.1.eval (s.takeException e)).value (s.takeException e).cpsr.c = resumeAt e s.pc := by
  have h14 := readReg_14_takeException s he
  have hshift (w : Word) (c : Bool) : (shiftByImm .lsl w 0 c).value = w := rfl
  have himm (n : BitVec 8) (c : Bool) : (immOperand 0 n c).value = n.setWidth 32 := by
    exact rotateRight_zero_word (n.setWidth 32)
  cases e with
  | reset => exact absurd rfl he
  | swi | undefined =>
    simp only [returnForm, DpOp.result, Op2.eval, State.shiOp, hshift, h14]
    rfl
  | dataAbort | irq | fiq | prefetchAbort =>
    simp only [returnForm, DpOp.result, Op2.eval, State.immOp, himm, h14, Exc.returnAddress, resumeAt]
    exact BitVec.add_sub_cancel _ _

theorem resumeAt_aligned {e : Exc} {pc : Word} (h : pc.toNat % 4 = 0) : (resumeAt e pc).toNat % 4 = 0 := by
  unfold resumeAt
  split <;> bv_omega

/-- Settles O48: the return instruction is an exception return, from the SPSR that the entry saved, to an
aligned address. -/
theorem exceptionReturnResumes : Obligations.ExceptionReturnResumes := by
  unfold Obligations.ExceptionReturnResumes
  intro s e he hinv
  obtain ⟨hpc, ht, hmode, -⟩ := (inv_iff s).1 hinv
  have hready : Ready ((returnForm e).1.instr (returnForm e).2.1 .al true (returnForm e).2.2 15)
      ((returnForm e).1.regs (returnForm e).2.1 (returnForm e).2.2 15) (s.takeException e) := by
    refine ⟨?_, ?_, State.hazard_of_not _ _ (s.takeException_afterUserBank e)⟩
    · cases e <;> rfl
    · cases e <;> rfl
  have hlegal : s.cpsr.mode ≠ none := Option.isSome_iff_ne_none.1 hmode
  have haligned : (resumeAt e s.pc).toNat % 4 = 0 := resumeAt_aligned (of_decide_eq_true hpc)
  have hback : (s.takeException e).exceptionReturn (resumeAt e s.pc) =
      .next { s.takeException e with cpsr := s.cpsr, pc := resumeAt e s.pc } := by
    simp only [State.exceptionReturn, spsr_takeException s he, ht, Bool.false_eq_true, if_false, if_neg hlegal,
      State.branchTo, and_pcMask_of_aligned haligned]
    rw [← s.takeException_stale e, ← s.takeException_afterUserBank e]
  rw [returnInstr_eq, (framed_dp ..).exec_of_ready hready, State.finishResult, if_pos rfl, if_pos rfl, dpAlu_result,
    return_result s he, hback]

end Sys2Proof.Proofs
end

section
/-! PROOFS. Block transfers with `^`, stores, faults and aborts (`44_load_store_multiple.md`). -/

namespace Sys2Proof.Proofs

open Sys2Proof.Machine Sys2Proof.Claims

/-! ### The list and its addresses (R115, R232) -/

theorem listed_length_le (list : BitVec 16) : (listed list).length ≤ 16 := List.length_filter_le _ _

theorem listed_ne_nil {list : BitVec 16} (h : list ≠ 0) : listed list ≠ [] := by
  intro hnil
  refine h (BitVec.eq_of_getLsbD_eq fun i hi => ?_)
  have hnot : BitVec.ofNat 4 i ∉ listed list := by simp [hnil]
  have hnat : (BitVec.ofNat 4 i).toNat = i := by
    rw [BitVec.toNat_ofNat]
    omega
  rw [mem_listed, hnat] at hnot
  simpa using hnot

/-- A block transfer is aligned where its base is (R232). -/
theorem blockStart_mod_four (k : BlockMode) (base : Word) (list : BitVec 16) :
    (blockStart k base list).toNat % 4 = base.toNat % 4 := by
  have hbytes : (listBytes list).toNat % 4 = 0 := by
    simp only [listBytes, BitVec.toNat_ofNat]
    omega
  cases k <;> simp only [blockStart] <;> bv_omega

theorem misaligned_blockStart {k : BlockMode} {base : Word} (list : BitVec 16) (h : base.toNat % 4 ≠ 0) :
    (blockStart k base list).toNat % Size.word.bytes ≠ 0 := by
  rw [Size.bytes, blockStart_mod_four]
  exact h

theorem list_ne_zero_of_ldm_wf {k : BlockMode} {c : Cond} {caret w : Bool} {rn : RegNum} {list : BitVec 16}
    (h : (ldm k c caret w rn list).wf = true) : list ≠ 0 := by
  simp only [wf_ldm, ldmOk, Bool.and_eq_true, decide_eq_true_eq] at h
  obtain ⟨⟨⟨-, hlist⟩, -⟩, -⟩ := h
  exact hlist

theorem list_ne_zero_of_stm_wf {k : BlockMode} {c : Cond} {caret w : Bool} {rn : RegNum} {list : BitVec 16}
    (h : (stm k c caret w rn list).wf = true) : list ≠ 0 := by
  simp only [wf_stm, stmOk, Bool.and_eq_true, decide_eq_true_eq] at h
  obtain ⟨⟨⟨-, hlist⟩, -⟩, -⟩ := h
  exact hlist

/-- R15 is never stored by an STM (R236). -/
theorem no_r15_of_stm_wf {k : BlockMode} {c : Cond} {caret w : Bool} {rn : RegNum} {list : BitVec 16}
    (h : (stm k c caret w rn list).wf = true) : list.getLsbD 15 = false := by
  simp only [wf_stm, stmOk, Bool.and_eq_true, Bool.not_eq_true'] at h
  obtain ⟨⟨⟨⟨-, h15⟩, -⟩, -⟩, -⟩ := h
  exact h15

/-- The user-bank form of LDM has no write-back (R238). -/
theorem no_writeBack_of_ldm_wf {k : BlockMode} {c : Cond} {w : Bool} {rn : RegNum} {list : BitVec 16}
    (h : (ldm k c true w rn list).wf = true) (h15 : list.getLsbD 15 = false) : w = false := by
  rw [wf_ldm, Bool.and_eq_true] at h
  obtain ⟨-, huser⟩ := h
  rw [userFormOk, h15] at huser
  simpa using huser

/-! ### The reads of an LDM -/

/-- The address of the next access. -/
theorem add_four_mul_succ (a : Word) (j : Nat) :
    a + BitVec.ofNat 32 (4 * (j + 1)) = a + 4 + BitVec.ofNat 32 (4 * j) := by
  rw [Nat.mul_add, BitVec.ofNat_add]
  bv_omega

/-- The reads of an LDM end at the first access that faults or aborts, with the words read before it. -/
theorem readMany_of_stop {s : State} {p : Bool} {a : Word} {rs : List RegNum} {vals : List Word}
    (hlen : vals.length < rs.length)
    (hread : ∀ j (h : j < vals.length), s.memRead p .word (a + BitVec.ofNat 32 (4 * j)) = .ok vals[j]) :
    (∀ f, s.memRead p .word (a + BitVec.ofNat 32 (4 * vals.length)) = .fault f → s.readMany p a rs = .fault f) ∧
      (s.memRead p .word (a + BitVec.ofNat 32 (4 * vals.length)) = .abort →
        s.readMany p a rs = .abort (rs.zip vals)) := by
  induction rs generalizing a vals with
  | nil => cases hlen
  | cons r rs ih =>
    cases vals with
    | nil =>
      have hzero : a + BitVec.ofNat 32 (4 * ([] : List Word).length) = a := a.add_zero
      rw [hzero]
      exact ⟨fun f hf => by simp only [State.readMany, hf],
        fun ha => by simp only [State.readMany, ha, List.zip_nil_right]⟩
    | cons v vals =>
      have hfirst : s.memRead p .word a = .ok v := (congrArg _ a.add_zero.symm).trans (hread 0 (by simp))
      obtain ⟨hfault, habort⟩ := ih (a := a + 4) (vals := vals) (by simpa using hlen) fun j hj =>
        (congrArg _ (add_four_mul_succ a j).symm).trans (hread (j + 1) (by simpa using hj))
      rw [List.length_cons, add_four_mul_succ]
      constructor
      · intro f hf
        simp only [State.readMany, hfirst, hfault f hf]
      · intro ha
        simp only [State.readMany, hfirst, habort ha, List.zip_cons_cons]

/-- LDM with `^` has a meaning in this state: in a privileged mode, and with R15 in the list in one that
has an SPSR (R238). -/
def CaretAllowed (s : State) (caret : Bool) (list : BitVec 16) : Prop :=
  caret = true → s.privileged = true ∧ (list.getLsbD 15 = true → s.spsr ≠ none)

theorem no_caretLoadFault {s : State} {caret : Bool} {list : BitVec 16} (h : CaretAllowed s caret list) :
    (if caret then s.caretLoadFault list else none) = none := by
  cases caret with
  | false => rfl
  | true =>
    obtain ⟨hpriv, hspsr⟩ := h rfl
    have hsome : (list.getLsbD 15 && s.spsr.isNone) = false := by
      cases h15 : list.getLsbD 15 with
      | false => rfl
      | true => simpa using Option.isSome_iff_ne_none.2 (hspsr h15)
    simp only [State.caretLoadFault, hpriv, hsome, if_true, Bool.true_eq_false, Bool.false_eq_true, if_false]

/-- The write-back value of a block transfer, where there is one. -/
abbrev blockWriteBack (s : State) (k : BlockMode) (w : Bool) (rn : RegNum) (list : BitVec 16) : Option Word :=
  if w then some (blockFinal k (s.readReg rn) list) else none

section
variable {s : State} {k : BlockMode} {caret w : Bool} {rn : RegNum} {list : BitVec 16}

theorem loadMultiple_of_ok {pairs : List (RegNum × Word)} (hcaret : CaretAllowed s caret list)
    (h : s.readMany s.privileged (blockStart k (s.readReg rn) list) (listed list) = .ok pairs) :
    s.loadMultiple k caret w rn list = s.finishLoads caret rn (blockWriteBack s k w rn list) pairs := by
  simp only [State.loadMultiple, no_caretLoadFault hcaret, start_eq_blockStart, final_eq_blockFinal,
    regList_eq_listed, h]

theorem loadMultiple_of_abort {pairs : List (RegNum × Word)} (hcaret : CaretAllowed s caret list)
    (h : s.readMany s.privileged (blockStart k (s.readReg rn) list) (listed list) = .abort pairs) :
    s.loadMultiple k caret w rn list =
      s.abortLoads (caret && !list.getLsbD 15) rn (blockWriteBack s k w rn list) pairs := by
  simp only [State.loadMultiple, no_caretLoadFault hcaret, start_eq_blockStart, final_eq_blockFinal,
    regList_eq_listed, h]

theorem loadMultiple_of_fault {f : Fault} (hcaret : CaretAllowed s caret list)
    (h : s.readMany s.privileged (blockStart k (s.readReg rn) list) (listed list) = .fault f) :
    s.loadMultiple k caret w rn list = .fault f := by
  simp only [State.loadMultiple, no_caretLoadFault hcaret, start_eq_blockStart, regList_eq_listed, h]

theorem loadMultiple_of_not_privileged (h : s.privileged = false) :
    s.loadMultiple k true w rn list = .fault .userBankForm := by
  simp only [State.loadMultiple, State.caretLoadFault, h, if_true]

theorem loadMultiple_of_no_spsr (hpriv : s.privileged = true) (h15 : list.getLsbD 15 = true) (h : s.spsr = none) :
    s.loadMultiple k true w rn list = .fault .noSpsr := by
  simp [State.loadMultiple, State.caretLoadFault, hpriv, h15, h]

end

/-! ### LDM with `^` -/

/-- Settles O32: the end of the LDM is an exception return to the last word, from the state with the
registers loaded. -/
theorem loadMultipleReturn : Obligations.LoadMultipleReturn := by
  unfold Obligations.LoadMultipleReturn
  intro k c w rn list s vals v hready h15
  have hrn : rn ≠ 15 := base_ne_15_of_ready hready
  have hnamed : blockNamed true rn list = rn :: listed list := by
    rw [blockNamed, h15]
    rfl
  rw [exec_ldm_of_ready (by rwa [hnamed])]
  refine ⟨loadMultiple_of_not_privileged, fun hpriv hnone => loadMultiple_of_no_spsr hpriv h15 hnone, ?_⟩
  rintro p hp ⟨hlen, hread⟩ hv
  have hcaret : CaretAllowed s true list := fun _ => ⟨privileged_of_spsr hp, fun _ => by simp [hp]⟩
  have hpc := pcWord_of_listed hlen h15 hv
  have hspsr : (loaded s w rn (blockFinal k (s.readReg rn) list) ((listed list).zip vals)).spsr = some p := hp
  rw [loadMultiple_of_ok hcaret (readMany_of_reads hlen hread)]
  simp only [State.finishLoads, hpc, if_true, writeBase_writeRegs_eq_loaded s hrn, exceptionReturn_eq, hspsr]
  rfl

/-- The registers an LDM of the User bank writes. -/
theorem writeRegs_user_eq_loadRegs (s : State) (pairs : List (RegNum × Word)) :
    s.writeRegs true pairs = { s with regs := loadRegs 0b10000 pairs s.regs } := by
  induction pairs generalizing s with
  | nil => rfl
  | cons e rest ih =>
    obtain ⟨r, v⟩ := e
    by_cases hr : r = 15
    · subst hr
      simp [State.writeRegs, loadRegs, ih]
    · rw [State.writeRegs, if_neg hr, if_pos rfl, s.writeUser_of_ne v hr, ih]
      rfl

theorem advanceUserBank_of_ne {s : State} (h : s.pc ≠ 0xFFFFFFFC) :
    s.advanceUserBank = .next { s with pc := s.pc + 4, afterUserBank := true } := by
  rw [State.advanceUserBank, State.advance_of_ne h]

/-- Settles O33: the end of the LDM writes the User bank and leaves the hazard of R365. -/
theorem loadMultipleUserBank : Obligations.LoadMultipleUserBank := by
  unfold Obligations.LoadMultipleUserBank
  intro k c w rn list s vals hready h15
  have hnamed : blockNamed true rn list = [rn] := by
    rw [blockNamed, h15]
    rfl
  obtain rfl := no_writeBack_of_ldm_wf hready.1 h15
  rw [exec_ldm_of_ready (by rwa [hnamed])]
  refine ⟨loadMultiple_of_not_privileged, ?_⟩
  rintro hpriv ⟨hlen, hread⟩ hpc
  have hcaret : CaretAllowed s true list := fun _ => ⟨hpriv, fun h => absurd (h15.symm.trans h) (by decide)⟩
  rw [loadMultiple_of_ok hcaret (readMany_of_reads hlen hread)]
  simp only [State.finishLoads, pcWord_of_not_listed vals h15, blockWriteBack, if_true, Bool.false_eq_true,
    if_false, State.writeBase_none, writeRegs_user_eq_loadRegs]
  exact advanceUserBank_of_ne hpc

/-! ### An LDM that aborts (R249) -/

/-- The draw of an aborted LDM writes registers only. -/
theorem writeDrawn_frame (s : State) (user : Bool) (k : Nat) {pairs : List (RegNum × Word)}
    (h : ∀ e ∈ pairs, e.1 ≠ 15) :
    s.writeDrawn user k pairs = { s with regs := (s.writeDrawn user k pairs).regs } := by
  induction pairs generalizing s k with
  | nil => rfl
  | cons e rest ih =>
    obtain ⟨r, v⟩ := e
    obtain ⟨hr, hrest⟩ := List.forall_mem_cons.1 h
    simp only [State.writeDrawn]
    split
    · split
      · rw [s.writeUser_of_ne v hr]
        exact ih _ _ hrest
      · rw [s.writeReg_of_ne v hr]
        exact ih _ _ hrest
    · exact ih _ _ hrest

/-- A register after the draw of an aborted LDM holds its old value or a word that was read for its name. -/
theorem get_writeDrawn (s : State) (user : Bool) (k : Nat) {pairs : List (RegNum × Word)} (h : ∀ e ∈ pairs, e.1 ≠ 15)
    (q : PhysReg) :
    (s.writeDrawn user k pairs).regs.get q = s.regs.get q ∨
      ∃ e ∈ pairs, (s.writeDrawn user k pairs).regs.get q = e.2 ∧
        phys (if user then 0b10000 else s.cpsr.m) e.1 = some q := by
  induction pairs generalizing s k with
  | nil => exact .inl rfl
  | cons e rest ih =>
    obtain ⟨r, v⟩ := e
    obtain ⟨hr, hrest⟩ := List.forall_mem_cons.1 h
    have hwritten : (if user then s.writeUser r v else s.writeReg r v) =
        { s with regs := s.regs.write (if user then 0b10000 else s.cpsr.m) r v } := by
      cases user
      · exact s.writeReg_of_ne v hr
      · exact s.writeUser_of_ne v hr
    simp only [State.writeDrawn, hwritten]
    split
    · obtain hold | ⟨e, he, hget, hphys⟩ :=
        ih { s with regs := s.regs.write (if user then 0b10000 else s.cpsr.m) r v } (k + 1) hrest
      · rw [Regs.get_write] at hold
        by_cases hphys : phys (if user then 0b10000 else s.cpsr.m) r = some q
        · exact .inr ⟨(r, v), List.mem_cons_self, hold.trans (if_pos hphys), hphys⟩
        · exact .inl (hold.trans (if_neg hphys))
      · exact .inr ⟨e, List.mem_cons_of_mem _ he, hget, hphys⟩
    · obtain hold | ⟨e, he, hget, hphys⟩ := ih s (k + 1) hrest
      · exact .inl hold
      · exact .inr ⟨e, List.mem_cons_of_mem _ he, hget, hphys⟩

/-- The words read before an abort are for registers other than R15, the last of its list. -/
theorem ne_15_of_mem_zip {list : BitVec 16} {vals : List Word} (hlen : vals.length < (listed list).length)
    {e : RegNum × Word} (he : e ∈ (listed list).zip vals) : e.1 ≠ 15 := by
  intro h15
  obtain ⟨j, hj⟩ := List.mem_iff_getElem?.1 he
  obtain ⟨hreg, hval⟩ := List.getElem?_zip_eq_some.1 hj
  obtain ⟨hjvals, -⟩ := List.getElem?_eq_some_iff.1 hval
  have hsplit : listed list = (listed list).take (j + 1) ++ (listed list).drop (j + 1) :=
    (List.take_append_drop ..).symm
  obtain ⟨r, rest, hdrop⟩ : ∃ r rest, (listed list).drop (j + 1) = r :: rest :=
    List.exists_cons_of_ne_nil fun hnil => by
      have hle := List.drop_eq_nil_iff.1 hnil
      omega
  rw [hdrop] at hsplit
  refine not_mem_of_listed_eq_append hsplit (h15 ▸ List.mem_of_getElem? (i := j) ?_)
  rw [List.getElem?_take_of_lt (Nat.lt_succ_self j)]
  exact hreg

/-- The registers of an aborted LDM before its exception entry. -/
def drawnRegs (s : State) (user : Bool) (pairs : List (RegNum × Word)) : Regs := (s.writeDrawn user s.draws pairs).regs

/-- The base of an aborted LDM, by ABORT_BASE_MODEL: kept, written back, or without `!` drawn as the others (R74). -/
def abortedBase (s : State) (w : Bool) (rn : RegNum) (final : Word) (g : Regs) : Regs :=
  if s.platform.baseUpdated then blockBase w s.cpsr.m rn final g else g.write s.cpsr.m rn (s.readReg rn)

theorem abortLoads_eq (s : State) (user w : Bool) {rn : RegNum} (final : Word) {pairs : List (RegNum × Word)}
    (hrn : rn ≠ 15)
    (h : ∀ e ∈ pairs, e.1 ≠ 15) :
    s.abortLoads user rn (if w then some final else none) pairs =
      .next
        (State.takeException
          { s with
            regs := abortedBase s w rn final (drawnRegs s user pairs)
            draws := s.draws + pairs.length }
          .dataAbort) := by
  have hdrawn : ({ s.writeDrawn user s.draws pairs with draws := s.draws + pairs.length } : State) =
      { s with regs := drawnRegs s user pairs, draws := s.draws + pairs.length } := by
    rw [writeDrawn_frame s user s.draws h]
    rfl
  unfold State.abortLoads abortedBase
  simp only [hdrawn, writeBase_eq_blockBase _ hrn, State.writeReg_of_ne _ _ hrn]
  cases s.platform.baseUpdated <;> rfl

/-- Reading a name whose register was written. -/
theorem readReg_with_regs (s : State) {rn : RegNum} (hrn : rn ≠ 15) (g : Regs) (v : Word) (n : Nat) :
    ({ s with regs := g.write s.cpsr.m rn v, draws := n } : State).readReg rn = v := by
  obtain ⟨q, hq⟩ := phys_isSome s.cpsr.m hrn
  simp [State.readReg, hq, Regs.get_write]

/-- Settles O36: the reads end at the abort, and each register read holds what the draw left or the base rule wrote. -/
theorem loadMultipleAborts : Obligations.LoadMultipleAborts := by
  unfold Obligations.LoadMultipleAborts
  intro k c caret w rn list s vals hready hcaret hlen hread habort
  have hrn : rn ≠ 15 := base_ne_15_of_ready hready
  have h15 : ∀ e ∈ (listed list).zip vals, e.1 ≠ 15 := fun e => ne_15_of_mem_zip hlen
  have hcount : ((listed list).zip vals).length = vals.length := by
    rw [List.length_zip, Nat.min_eq_right hlen.le]
  have hexec := (exec_ldm_of_ready hready).trans (loadMultiple_of_abort hcaret ((readMany_of_stop hlen hread).2 habort))
  rw [abortLoads_eq s _ w _ hrn h15, hcount] at hexec
  refine ⟨_, hexec, rfl, fun hrestored => ?_, fun hupdated hw => ?_, fun q hq => ?_⟩
  · simp only [abortedBase, hrestored, Bool.false_eq_true, if_false]
    exact readReg_with_regs s hrn _ _ _
  · simp only [abortedBase, hupdated, hw, if_true, blockBase]
    exact readReg_with_regs s hrn _ _ _
  · have hbase : (abortedBase s w rn (blockFinal k (s.readReg rn) list)
        (drawnRegs s (caret && !list.getLsbD 15) ((listed list).zip vals))).get q =
          (drawnRegs s (caret && !list.getLsbD 15) ((listed list).zip vals)).get q := by
      unfold abortedBase blockBase
      obtain hother | ⟨hupdated, hw⟩ := hq
      · cases s.platform.baseUpdated <;> cases w <;> simp [Regs.get_write, hother]
      · simp [hupdated, hw]
    dsimp only
    rw [hbase]
    refine (get_writeDrawn s _ s.draws h15 q).imp id ?_
    rintro ⟨e, he, hget, hphys⟩
    obtain ⟨j, hj⟩ := List.mem_iff_getElem?.1 he
    obtain ⟨hreg, hval⟩ := List.getElem?_zip_eq_some.1 hj
    exact ⟨j, e.1, hreg, hval.trans (congrArg some hget.symm), hphys⟩

/-! ### The stores of an STM -/

/-- The state with words stored at consecutive addresses. -/
def storeWords (s : State) : Word → List Word → State
  | _, [] => s
  | a, v :: vs => storeWords (s.store .word a v) (a + 4) vs

theorem writeMany_of_writes {s : State} {p : Bool} {a : Word} {vs : List Word} (ha : a.toNat % 4 = 0)
    (h : ∀ j, j < vs.length → s.aborts (a + BitVec.ofNat 32 (4 * j)) 4 .write p = false) :
    s.writeMany p a vs = .ok (storeWords s a vs) := by
  induction vs generalizing s a with
  | nil => rfl
  | cons v vs ih =>
    have h0 : s.aborts a 4 .write p = false := (congrArg (s.aborts · 4 .write p) a.add_zero.symm).trans (h 0 (by simp))
    have hwrite : s.memWrite p .word a v = .ok (s.store .word a v) :=
      State.memWrite_ok.2 ⟨misaligned_eq_false ha, h0, rfl⟩
    simp only [State.writeMany, hwrite]
    refine ih (by bv_omega) fun j hj => ?_
    rw [← add_four_mul_succ]
    exact h (j + 1) (by simpa using hj)

/-- The stores of an STM end at the first access that aborts, with the words before it stored. -/
theorem writeMany_of_abort {s : State} {p : Bool} {a : Word} {vs : List Word} {n : Nat} (ha : a.toNat % 4 = 0)
    (hn : n < vs.length) (h : ∀ j, j < n → s.aborts (a + BitVec.ofNat 32 (4 * j)) 4 .write p = false)
    (habort : s.aborts (a + BitVec.ofNat 32 (4 * n)) 4 .write p = true) :
    s.writeMany p a vs = .abort (storeWords s a (vs.take n)) := by
  induction vs generalizing s a n with
  | nil => cases hn
  | cons v vs ih =>
    have hzero : a + BitVec.ofNat 32 (4 * 0) = a := a.add_zero
    cases n with
    | zero =>
      rw [hzero] at habort
      have hwrite : s.memWrite p .word a v = .abort := State.memWrite_abort.2 ⟨misaligned_eq_false ha, habort⟩
      simp only [State.writeMany, hwrite]
      rfl
    | succ n =>
      have h0 := h 0 n.succ_pos
      rw [hzero] at h0
      have hwrite : s.memWrite p .word a v = .ok (s.store .word a v) :=
        State.memWrite_ok.2 ⟨misaligned_eq_false ha, h0, rfl⟩
      simp only [State.writeMany, hwrite]
      rw [add_four_mul_succ] at habort
      refine ih (by bv_omega) (by simpa using hn) (fun j hj => ?_) habort
      rw [← add_four_mul_succ]
      exact h (j + 1) (by omega)

theorem storeWords_frame (s : State) (a : Word) (vs : List Word) :
    storeWords s a vs = { s with mem := (storeWords s a vs).mem, stale := (storeWords s a vs).stale } := by
  induction vs generalizing s a with
  | nil => rfl
  | cons v vs ih => exact ih (s.store .word a v) (a + 4)

/-- The bytes outside the stored words are as before. -/
theorem byteAt_storeWords_outside {s : State} {a : Word} {vs : List Word} {y : Word}
    (h : 4 * vs.length ≤ (y - a).toNat) : (storeWords s a vs).byteAt y = s.byteAt y := by
  induction vs generalizing s a with
  | nil => rfl
  | cons v vs ih =>
    rw [List.length_cons] at h
    have hrest : 4 * vs.length ≤ (y - (a + 4)).toNat := by bv_omega
    exact (ih hrest).trans (s.byteAt_store_outside .word a v y (by simp only [Size.bytes]; omega))

/-- A word is as before where its bytes are and the byte order is. -/
theorem wordAt_congr {s t : State} {a : Word} (hplatform : t.platform = s.platform)
    (h : ∀ i : Nat, i < 4 → t.byteAt (a + BitVec.ofNat 32 i) = s.byteAt (a + BitVec.ofNat 32 i)) :
    t.wordAt a = s.wordAt a := by
  have h0 := h 0 (by decide)
  have hzero : a + BitVec.ofNat 32 0 = a := a.add_zero
  rw [hzero] at h0
  have h1 : t.byteAt (a + 1) = s.byteAt (a + 1) := h 1 (by decide)
  have h2 : t.byteAt (a + 2) = s.byteAt (a + 2) := h 2 (by decide)
  have h3 : t.byteAt (a + 3) = s.byteAt (a + 3) := h 3 (by decide)
  simp only [State.wordAt, hplatform, h0, h1, h2, h3]

/-- Word `j` of at most sixteen is the `j`-th of the stored ones. -/
theorem wordAt_storeWords {s : State} {a : Word} {vs : List Word} (hlen : vs.length ≤ 16) {j : Nat} {v : Word}
    (h : vs[j]? = some v) : (storeWords s a vs).wordAt (a + BitVec.ofNat 32 (4 * j)) = some v := by
  induction vs generalizing s a j with
  | nil => cases h
  | cons w vs ih =>
    rw [List.length_cons] at hlen
    cases j with
    | zero =>
      have hv : w = v := by simpa using h
      subst hv
      have hzero : a + BitVec.ofNat 32 (4 * 0) = a := a.add_zero
      have hplatform : (storeWords (s.store .word a w) (a + 4) vs).platform = (s.store .word a w).platform := by
        rw [storeWords_frame]
      rw [hzero, ← s.wordAt_store a w, storeWords]
      refine wordAt_congr hplatform fun i hi => byteAt_storeWords_outside ?_
      have hoff : a + BitVec.ofNat 32 i - (a + 4) = BitVec.ofNat 32 i - 4 := by bv_omega
      rw [hoff]
      bv_omega
    | succ j =>
      rw [add_four_mul_succ]
      exact ih (by omega) h

theorem wordBase_of_aligned {a : Word} (h : a.toNat % 4 = 0) : wordBase a = a := and_pcMask_of_aligned h

/-- A store leaves the record of a later word of the same transfer as it was. -/
theorem missedBy_store {s : State} {a : Word} (v : Word) {b : Word} (hb : b.toNat % 4 = 0) (hlo : 4 ≤ (b - a).toNat)
    (hhi : (b - a).toNat ≤ 64) : (s.store .word a v).missedBy b = s.missedBy b := by
  have hword : (s.store .word a v).wordAt b = s.wordAt b := by
    refine wordAt_congr rfl fun i hi => s.byteAt_store_outside .word a v _ ?_
    simp only [Size.bytes]
    bv_omega
  simp only [State.missedBy, State.store_pc, wordBase_of_aligned hb, hword]

/-- The records that the stores of an STM add, each of the word as it was before the instruction. -/
theorem stale_storeWords {s : State} {a : Word} {vs : List Word} (ha : a.toNat % 4 = 0) (hlen : vs.length ≤ 16) :
    (storeWords s a vs).stale =
      s.stale ++ (List.range vs.length).flatMap fun j => s.missedBy (a + BitVec.ofNat 32 (4 * j)) := by
  induction vs generalizing s a with
  | nil => simp [storeWords]
  | cons v vs ih =>
    rw [List.length_cons] at hlen
    have hrest : ∀ j ∈ List.range vs.length,
        (s.store .word a v).missedBy (a + 4 + BitVec.ofNat 32 (4 * j)) =
          s.missedBy (a + BitVec.ofNat 32 (4 * (j + 1))) := by
      intro j hj
      have hj' := List.mem_range.1 hj
      rw [add_four_mul_succ]
      have hoff : a + 4 + BitVec.ofNat 32 (4 * j) - a = 4 + BitVec.ofNat 32 (4 * j) := by bv_omega
      refine missedBy_store v (by bv_omega) ?_ ?_ <;> rw [hoff] <;> bv_omega
    have hzero : a + BitVec.ofNat 32 (4 * 0) = a := a.add_zero
    rw [storeWords, ih (by bv_omega) (by omega), List.flatMap_congr hrest, List.length_cons, List.range_succ_eq_map,
      List.flatMap_cons, List.flatMap_map, hzero, ← List.append_assoc]
    rfl

/-! ### STM -/

/-- The values an STM stores (R235, R239). -/
def storedValues (s : State) (caret : Bool) (list : BitVec 16) : List Word :=
  (listed list).map fun r => if caret then s.readUser r else s.readReg r

@[simp] theorem storedValues_length (s : State) (caret : Bool) (list : BitVec 16) :
    (storedValues s caret list).length = (listed list).length := List.length_map _

theorem readUser_eq_cell (s : State) {r : RegNum} (hr : r ≠ 15) : s.readUser r = cell s.regs 0b10000 r := by
  obtain ⟨q, hq⟩ := phys_isSome Mode.usr.bits hr
  have hq' : phys 0b10000 r = some q := hq
  simp only [State.readUser, cell, hq, hq']

theorem storedValues_getElem? (s : State) (caret : Bool) {list : BitVec 16} (h15 : list.getLsbD 15 = false) {j : Nat}
    {r : RegNum} (h : (listed list)[j]? = some r) :
    (storedValues s caret list)[j]? = some (if caret then cell s.regs 0b10000 r else s.readReg r) := by
  have hr : r ≠ 15 := by
    rintro rfl
    have hmem := mem_listed.1 (List.mem_of_getElem? h)
    exact absurd (h15.symm.trans hmem) (by decide)
  rw [storedValues, List.getElem?_map, h, Option.map_some, readUser_eq_cell s hr]

section
variable {s : State} {k : BlockMode} {caret w : Bool} {rn : RegNum} {list : BitVec 16}

theorem storeMultiple_of_ok {t : State} (hcaret : caret = true → s.privileged = true)
    (h : s.writeMany s.privileged (blockStart k (s.readReg rn) list) (storedValues s caret list) = .ok t) :
    s.storeMultiple k caret w rn list =
      if caret then (t.writeBase rn (blockWriteBack s k w rn list)).advanceUserBank
      else (t.writeBase rn (blockWriteBack s k w rn list)).advance := by
  have hallowed : (caret && !s.privileged) = false := by simpa using hcaret
  simp only [storedValues] at h
  simp only [State.storeMultiple, hallowed, Bool.false_eq_true, if_false, start_eq_blockStart, final_eq_blockFinal,
    regList_eq_listed, h]

theorem storeMultiple_of_abort {t : State} (hcaret : caret = true → s.privileged = true)
    (h : s.writeMany s.privileged (blockStart k (s.readReg rn) list) (storedValues s caret list) = .abort t) :
    s.storeMultiple k caret w rn list = t.abortStores rn (blockWriteBack s k w rn list) := by
  have hallowed : (caret && !s.privileged) = false := by simpa using hcaret
  simp only [storedValues] at h
  simp only [State.storeMultiple, hallowed, Bool.false_eq_true, if_false, start_eq_blockStart, final_eq_blockFinal,
    regList_eq_listed, h]

theorem storeMultiple_of_fault {f : Fault} (hcaret : caret = true → s.privileged = true)
    (h : s.writeMany s.privileged (blockStart k (s.readReg rn) list) (storedValues s caret list) = .fault f) :
    s.storeMultiple k caret w rn list = .fault f := by
  have hallowed : (caret && !s.privileged) = false := by simpa using hcaret
  simp only [storedValues] at h
  simp only [State.storeMultiple, hallowed, Bool.false_eq_true, if_false, start_eq_blockStart, regList_eq_listed, h]

theorem storeMultiple_of_not_privileged (h : s.privileged = false) :
    s.storeMultiple k true w rn list = .fault .userBankForm := by
  simp [State.storeMultiple, h]

end

/-- A block store that is ready is the transfer itself; as R15 is not in its list, `^` alone says what it names. -/
theorem exec_stm_of_ready {k : BlockMode} {c : Cond} {caret w : Bool} {rn : RegNum} {list : BitVec 16} {s : State}
    (h : Ready (stm k c caret w rn list) (if caret then [rn] else rn :: listed list) s) :
    exec (stm k c caret w rn list) s = s.storeMultiple k caret w rn list := by
  have h15 := no_r15_of_stm_wf h.1
  have hnamed : blockNamed caret rn list = if caret then [rn] else rn :: listed list := by
    rw [blockNamed, h15]
    cases caret <;> rfl
  exact (framed_stm k c caret w rn list).exec_of_ready (by rwa [hnamed])

/-- Settles O34: the words of the list stored from the first address on, and the base. -/
theorem storeMultiple : Obligations.StoreMultiple := by
  unfold Obligations.StoreMultiple
  intro k c caret w rn list s hready hcaret halign hwrites hpc
  have hrn := base_ne_15_of_stm_wf hready.1
  have h15 := no_r15_of_stm_wf hready.1
  have hlen : (storedValues s caret list).length ≤ 16 := by simpa using listed_length_le list
  have hstart : (blockStart k (s.readReg rn) list).toNat % 4 = 0 := (blockStart_mod_four ..).trans halign
  have hstored : s.writeMany s.privileged (blockStart k (s.readReg rn) list) (storedValues s caret list) =
      .ok (storeWords s (blockStart k (s.readReg rn) list) (storedValues s caret list)) :=
    writeMany_of_writes hstart fun j hj => hwrites j (by simpa using hj)
  have hexec := (exec_stm_of_ready hready).trans (storeMultiple_of_ok (w := w) hcaret hstored)
  have hframe := storeWords_frame s (blockStart k (s.readReg rn) list) (storedValues s caret list)
  have hstale := stale_storeWords (s := s) hstart hlen
  have hwords (j : Nat) (r : RegNum) (h : (listed list)[j]? = some r) :=
    wordAt_storeWords (s := s) (a := blockStart k (s.readReg rn) list) hlen (storedValues_getElem? s caret h15 h)
  have hbytes (y : Word) (h : 4 * (listed list).length ≤ (y - blockStart k (s.readReg rn) list).toNat) :=
    byteAt_storeWords_outside (s := s) (vs := storedValues s caret list) (by simpa using h)
  rw [storedValues_length] at hstale
  generalize storeWords s (blockStart k (s.readReg rn) list) (storedValues s caret list) = t at *
  have hend : exec (stm k c caret w rn list) s =
      .next { s with
        mem := t.mem
        stale := t.stale
        regs := blockBase w s.cpsr.m rn (blockFinal k (s.readReg rn) list) s.regs
        pc := s.pc + 4
        afterUserBank := caret } := by
    rw [hexec, writeBase_eq_blockBase _ hrn, hframe]
    cases caret
    · exact State.advance_of_ne hpc
    · exact advanceUserBank_of_ne hpc
  rw [hframe] at hwords hbytes
  refine ⟨_, hend, ?_, hwords, hbytes⟩
  rw [hstale]
  rfl

/-- Settles O37: the words before the abort stored, and the base as the parameter says. -/
theorem storeMultipleAborts : Obligations.StoreMultipleAborts := by
  unfold Obligations.StoreMultipleAborts
  intro k c caret w rn list s n hready hcaret halign hn hwrites habort
  have hrn := base_ne_15_of_stm_wf hready.1
  have h15 := no_r15_of_stm_wf hready.1
  have hstart : (blockStart k (s.readReg rn) list).toNat % 4 = 0 := (blockStart_mod_four ..).trans halign
  have hstored : s.writeMany s.privileged (blockStart k (s.readReg rn) list) (storedValues s caret list) =
      .abort (storeWords s (blockStart k (s.readReg rn) list) ((storedValues s caret list).take n)) :=
    writeMany_of_abort hstart (by simpa using hn) hwrites habort
  have hexec := (exec_stm_of_ready hready).trans (storeMultiple_of_abort (w := w) hcaret hstored)
  have hcount : ((storedValues s caret list).take n).length = n := by
    rw [List.length_take, storedValues_length, Nat.min_eq_left hn.le]
  have hframe := storeWords_frame s (blockStart k (s.readReg rn) list) ((storedValues s caret list).take n)
  have hwords (j : Nat) (r : RegNum) (hj : j < n) (h : (listed list)[j]? = some r) :=
    wordAt_storeWords (s := s) (a := blockStart k (s.readReg rn) list) (vs := (storedValues s caret list).take n)
      (by rw [hcount]; exact hn.le.trans (listed_length_le list))
      ((List.getElem?_take_of_lt hj).trans (storedValues_getElem? s caret h15 h))
  have hbytes (y : Word) (h : 4 * n ≤ (y - blockStart k (s.readReg rn) list).toNat) :=
    byteAt_storeWords_outside (s := s) (vs := (storedValues s caret list).take n) (by rwa [hcount])
  generalize storeWords s (blockStart k (s.readReg rn) list) ((storedValues s caret list).take n) = t at *
  rw [hframe] at hwords hbytes
  refine ⟨{ s with
    mem := t.mem
    stale := t.stale
    regs :=
      if s.platform.baseUpdated then blockBase w s.cpsr.m rn (blockFinal k (s.readReg rn) list) s.regs else s.regs },
    ?_, rfl, hwords, hbytes⟩
  rw [hexec, State.abortStores, writeBase_eq_blockBase _ hrn, hframe]
  cases s.platform.baseUpdated <;> rfl

/-! ### Faults -/

/-- The first access of an LDM with a misaligned base faults (R65, R249). -/
theorem readMany_of_misaligned (s : State) (p : Bool) {a : Word} {rs : List RegNum} (hrs : rs ≠ [])
    (h : a.toNat % Size.word.bytes ≠ 0) : s.readMany p a rs = .fault (.misaligned a) := by
  obtain ⟨r, rest, rfl⟩ := List.exists_cons_of_ne_nil hrs
  simp only [State.readMany, memRead_of_misaligned s p h]

theorem writeMany_of_misaligned (s : State) (p : Bool) {a : Word} {vs : List Word} (hvs : vs ≠ [])
    (h : a.toNat % Size.word.bytes ≠ 0) : s.writeMany p a vs = .fault (.misaligned a) := by
  obtain ⟨v, rest, rfl⟩ := List.exists_cons_of_ne_nil hvs
  simp only [State.writeMany, memWrite_of_misaligned s p v h]

/-- Settles O35: the reads and the stores end at the first access that faults. -/
theorem blockTransferFaults : Obligations.BlockTransferFaults := by
  unfold Obligations.BlockTransferFaults
  intro k c caret w rn list s
  refine ⟨fun hready hcaret => ?_, fun hready => ?_⟩
  · have hlist := listed_ne_nil (list_ne_zero_of_ldm_wf hready.1)
    rw [exec_ldm_of_ready hready]
    refine ⟨fun hmis => ?_, fun vals f hlen hread hfault => ?_⟩
    · exact loadMultiple_of_fault hcaret (readMany_of_misaligned s _ hlist (misaligned_blockStart list hmis))
    · exact loadMultiple_of_fault hcaret ((readMany_of_stop hlen hread).1 f hfault)
  · have hlist := listed_ne_nil (list_ne_zero_of_stm_wf hready.1)
    rw [(framed_stm k c caret w rn list).exec_of_ready hready]
    refine ⟨?_, fun hcaret hmis => ?_⟩
    · rintro rfl hpriv
      exact storeMultiple_of_not_privileged hpriv
    · have hvalues : storedValues s caret list ≠ [] := by simpa [storedValues] using hlist
      exact storeMultiple_of_fault hcaret (writeMany_of_misaligned s _ hvalues (misaligned_blockStart list hmis))

end Sys2Proof.Proofs
end
